-- ==== Sys2Proof/Word.lean ====
section
/-! DEFINITION. The word types of the CyEmu CORE (`spec/00_scope.md` R6, R8). -/

namespace Sys2Proof

/-- A memory cell, the accumulator, an operand byte: 8 bits (R6). -/
abbrev Byte := BitVec 8

/-- A general register, an address: 16 bits (R6). -/
abbrev Word := BitVec 16

/-- A select index `P`, `X`, a register number, the latch `N`: 4 bits (R6, R8). -/
abbrev Nibble := BitVec 4

/-- A port number, 0 to 7 (R6, R153). -/
abbrev Port := BitVec 3

end Sys2Proof
end

