-- ==== Sys2Proof/Machine/Bits.lean ====
section
/-! DEFINITION. Bit fields and halves (`spec/00_scope.md` R8, R9; `spec/30_encoding.md` R54, R57). -/

namespace Sys2Proof.Machine

/-- `op[7:4]`, the high nibble `I` (R54). -/
def hiNibble (b : Byte) : Nibble := b.extractLsb' 4 4

/-- `op[3:0]`, the low nibble `N` (R54). -/
def loNibble (b : Byte) : Nibble := b.extractLsb' 0 4

/-- `N[2:0]`, the port number (R57). -/
def portOf (n : Nibble) : Port := n.extractLsb' 0 3

/-- `R[i].hi = R[i][15:8]` (R9). -/
def hiByte (w : Word) : Byte := w.extractLsb' 8 8

/-- `R[i].lo = R[i][7:0]` (R9). -/
def loByte (w : Word) : Byte := w.extractLsb' 0 8

/-- `{hi, lo}`: 16 bits, `hi` in the more significant half (R8, R43). -/
def joinBytes (hi lo : Byte) : Word := hi ++ lo

end Sys2Proof.Machine
end

