-- ==== Sys2Proof/Config.lean ====
section
/-! DEFINITION. What an implementation or the environment fixes: the parameters of `spec/00_scope.md` R7 as plain data,
and the two free values, which nothing in Lean can evaluate. -/

namespace Sys2Proof.Config

/-- The parameters of R7 that are plain data, and one of the model's own. State holds them, no step changes them (log 1).
`DBC_SEED` is the free value `dbcSeed`; `Devices` are the lists in State; `RSV68` has the one value `refuse`. -/
structure Params where
  /-- `CAP`, 0 to 65536: how many bytes of memory exist (R36). -/
  cap : Fin 65537
  /-- `MWE_INIT`: the power-on value of the write switch (R40). -/
  mweInit : Bool
  /-- `HALT_PC_ADVANCE`: whether the halt's fetch advances `R[P]` (R164). -/
  haltPcAdvance : Bool
  /-- `HALT_COST_COUNTED`: whether the halt's 2 cycles are counted (R164). -/
  haltCostCounted : Bool
  /-- Whether the fetch of the halt byte writes `N`, as R22, R29 and D30 say of every fetch, or not, in the order of R162.
  DESIGN CHOICE (log 27): no parameter of R7. -/
  haltLatchesN : Bool
  /-- `RET_INC_NEW_X`: whether RET and DIS increment `R[new X]` (R148). -/
  retIncNewX : Bool
  /-- `INP_DEFAULT(p)`: the byte an input starts from (R155). -/
  inpDefault : Vector Byte 8
deriving DecidableEq, Repr

/-- The defaults of R7; `N` is written at every fetch (R22, R29, D30; log 27). -/
def Params.default : Params where
  cap := 65536
  mweInit := true
  haltPcAdvance := false
  haltCostCounted := false
  haltLatchesN := true
  retIncNewX := false
  inpDefault := Vector.replicate 8 0

/-- FREE VALUE (log 7): `DBC_SEED` of the k-th run, "a draw at each run entry, no range" (R7, R160, D8).
No body: nothing is known of it. -/
opaque dbcSeed : Nat → Nat

/-- FREE VALUE (log 8): what the device of that name answers to its k-th request once its script is used up:
a number, reduced modulo 256 by the input instruction, or "no value" (R155, U7). No body: nothing is known of it. -/
opaque deviceAnswer : Nat → Nat → Option Nat

end Sys2Proof.Config
end

