-- ==== Sys2Proof/Machine/State.lean ====
section
/-! DEFINITION. The state of the CORE, as plain data (`spec/10_state.md`, `spec/47_io_unsupported.md` R153 to R155,
`spec/60_exceptions.md` R168), the reasons a step can stop, and the machine after reset. -/

namespace Sys2Proof.Machine

/-- `RS`, the run state of the execution loop (R25). -/
inductive RunState where
  /-- No run since power-on or reset. -/
  | idle
  /-- A run is in progress. -/
  | running
  /-- The run ended at the opcode byte 0x00 (R164). -/
  | halted
  /-- The run ended because `DISP` was 1 (R161). -/
  | yielded
  /-- The run ended because the budget was used up (R161). -/
  | exhausted
deriving DecidableEq, Repr

/-- The three trace addresses, written by the memory primitives and read by no instruction (R32, R42). -/
structure Trace where
  /-- `LAST_FETCH`. -/
  lastFetch : Word
  /-- `LAST_RD`. -/
  lastRd : Word
  /-- `LAST_WR`. -/
  lastWr : Word
deriving DecidableEq, Repr

/-- An input device: the core knows its place in a list only (R153). It answers its next requests as `script` says, a
number or "no value" each (R155); past the script its answers are the free value `Config.deviceAnswer` (log 8). -/
structure InDevice where
  /-- The model's name for the device. -/
  name : Nat
  /-- The answers to the next requests. -/
  script : List (Option Nat)
  /-- How many requests it has had ("a device is asked, and may count the request", R155). -/
  asked : Nat
deriving DecidableEq, Repr

/-- An event of the output history: the byte presented at a port (R154). -/
structure OutEvent where
  port : Port
  byte : Byte
deriving DecidableEq, Repr

/-- One presentation of a byte to one device of an output port (R154). -/
structure Presentation where
  port : Port
  device : Nat
  byte : Byte
deriving DecidableEq, Repr

/-- The port registry (R153) and what has gone out through it (R154). -/
structure Ports where
  /-- The output devices of ports 0 to 7, in the order of attachment, by name. -/
  outDevs : Vector (List Nat) 8
  /-- The input devices of ports 0 to 7, in the order of attachment. -/
  inDevs : Vector (List InDevice) 8
  /-- The output history, oldest first. -/
  outHist : List OutEvent
  /-- Every presentation to a device, oldest first. -/
  presented : List Presentation
deriving DecidableEq, Repr

/-- The unsupported-opcode diagnostic `Warn(op, a)` (R168). -/
structure Diagnostic where
  op : Byte
  addr : Word
deriving DecidableEq, Repr

/-- The external flags that the environment sets between runs (R21). -/
inductive ExternalFlag where
  | ef1
  | ef2
  | ef3
deriving DecidableEq, Repr

/-- An operation of the host or a change of a level it drives (R35). -/
inductive HostOp where
  /-- `reset` (R179). -/
  | reset
  /-- `clear_registers` (R181). -/
  | clearRegisters
  /-- `clear_memory` (R182). -/
  | clearMemory
  /-- `run(LIMIT, START)` (R160). -/
  | run (limit start : Int)
  /-- `disp_clear` (R24). -/
  | dispClear
  /-- The write switch (R40). -/
  | setMwe (level : Bool)
  /-- The input line `IN_LINE` (R160). -/
  | setInLine (level : Bool)
  /-- An external flag of the environment (R21). -/
  | setEf (flag : ExternalFlag) (level : Bool)
  /-- A read through the memory host port (R50). -/
  | readMemory (addr : Nat)
  /-- A write through the memory host port (R50). -/
  | writeMemory (addr value : Nat)
  /-- `register_output_callback` (R153). -/
  | attachOut (port device : Nat)
  /-- `register_input_callback` (R153). -/
  | attachIn (port : Nat) (device : InDevice)
deriving DecidableEq, Repr

/-- The host's side of the interface (R35); the model's own bookkeeping but for `inLine` (log 6, 7, 9, 20). -/
structure HostSide where
  /-- The level `IN_LINE`. -/
  inLine : Bool
  /-- The requests not yet served, the next one first. -/
  pending : List HostOp
  /-- The replies to the host's reads, oldest first: address and byte. -/
  replies : List (Word × Byte)
  /-- How many runs have been entered: the argument of the free value `Config.dbcSeed`. -/
  runs : Nat
deriving DecidableEq, Repr

/-- Memory as a list of address and byte pairs, addresses strictly rising, no entry equal to what an unlisted address
reads as (`Machine/Memory.lean`). -/
abbrev Memory := List Host.Cell

/-- Everything the spec gives the machine (R13 to R35), with the parameters of R7. -/
structure State where
  /-- `R[0]` to `R[15]` (R13). -/
  regs : Vector Word 16
  /-- `P`: `R[P]` is the program counter (R16, R17). -/
  p : Nibble
  /-- `X`: `R[X]` is the pointer register (R23). -/
  x : Nibble
  /-- `N`: the low nibble of the opcode byte last fetched (R29). -/
  n : Nibble
  /-- `D`, the accumulator (R27). -/
  d : Byte
  /-- `DF`, the carry flag (R18). -/
  df : Bool
  /-- `IE`, the interrupt-enable flag (R20). -/
  ie : Bool
  /-- `Q`, the output flag (R19). -/
  q : Bool
  /-- `EF[1]` (R21). -/
  ef1 : Bool
  /-- `EF[2]` (R21). -/
  ef2 : Bool
  /-- `EF[3]` (R21). -/
  ef3 : Bool
  /-- `EF[4]` (R21). -/
  ef4 : Bool
  /-- `DBC`, the debounce counter (R30). -/
  dbc : Nat
  /-- The memory array (R36). -/
  mem : Memory
  /-- `MWE`, the write switch (R40). -/
  mwe : Bool
  /-- `BUS`, the data-bus scratch (R31). -/
  bus : Byte
  /-- `LAST_FETCH`, `LAST_RD`, `LAST_WR` (R32). -/
  trace : Trace
  /-- `RS` (R25). -/
  rs : RunState
  /-- `HADDR`, the halt address (R25). -/
  haddr : Word
  /-- `CYC`, the cycle counter (R26). -/
  cyc : Nat
  /-- `LIMIT`, the budget of the run in progress (R160, R161). -/
  limit : Int
  /-- `DISP`, the display-update flag (R24). -/
  disp : Bool
  /-- The ports (R153, R154). -/
  ports : Ports
  /-- The diagnostics, oldest first: a sticky record that no step clears (R168). -/
  diag : List Diagnostic
  /-- The host's side. -/
  env : HostSide
  /-- The parameters of R7; no step changes them. -/
  params : Config.Params
deriving DecidableEq, Repr

/-- No step faults: the hardware raises no exception and no access fails (R41, R167). So the type has no constructor. -/
inductive Fault
deriving DecidableEq, Repr

/-- Why a step gives no next state. -/
inductive Refusal where
  /-- Raised by `exec` for an instruction with no meaning yet. Safe: nothing is claimed of it. No arm raises it. -/
  | notModelled (mnemonic : String)
  /-- Raised by the reserved opcode byte 0x68, to which the spec gives no meaning (R60, D9). Safe: nothing is claimed. -/
  | reservedOpcode
deriving DecidableEq, Repr

/-- What a meaning answers. -/
abbrev Answer := Host.Outcome State Fault Refusal

/-- The machine after power-on, which performs a reset (R179, R183). The values that R183 calls unspecified are the ones
that the log names: `R[1]` to `R[15]` (log 3), `DF` (log 4), `DBC`, `HADDR`, `LIMIT` and the trace addresses (log 5),
`IN_LINE` (log 6), the run counter (log 7). -/
def State.reset : State where
  regs := Vector.replicate 16 0
  p := 0
  x := 0
  n := 0
  d := 0
  df := false
  ie := true
  q := false
  ef1 := true
  ef2 := true
  ef3 := true
  ef4 := true
  dbc := 0
  mem := []
  mwe := Config.Params.default.mweInit
  bus := 0
  trace := { lastFetch := 0, lastRd := 0, lastWr := 0 }
  rs := .idle
  haddr := 0
  cyc := 0
  limit := 0
  disp := false
  ports := { outDevs := Vector.replicate 8 [], inDevs := Vector.replicate 8 [], outHist := [], presented := [] }
  diag := []
  env := { inLine := false, pending := [], replies := [], runs := 0 }
  params := Config.Params.default

end Sys2Proof.Machine
end

