-- ==== Sys2Proof/Machine/Memory.lean ====
section
/-! DEFINITION. The memory array as a canonical list (`spec/20_memory.md` R36): reading and writing one cell. -/

namespace Sys2Proof.Machine

/-- What an unlisted cell reads as. DESIGN CHOICE (log 2): the spec leaves memory unspecified at power-on (R36, R183).
It is also what `clear_memory` writes (R182). -/
def unwrittenByte : Byte := 0

/-- The cell at address `a`. -/
def Memory.read : Memory → Nat → Byte
  | [], _ => unwrittenByte
  | (b, w) :: m, a => if b = a then w else Memory.read m a

/-- List the byte `v` at address `a`, in place of what is listed there. -/
def Memory.insert : Memory → Nat → Byte → Memory
  | [], a, v => [(a, v)]
  | (b, w) :: m, a, v =>
    if a < b then (a, v) :: (b, w) :: m
    else if a = b then (a, v) :: m
    else (b, w) :: Memory.insert m a v

/-- Store `v` at address `a`. Storing what an unlisted cell reads as removes the entry, so that equal memories are equal
lists. -/
def Memory.write (m : Memory) (a : Nat) (v : Byte) : Memory :=
  if v = unwrittenByte then m.filter (fun c => c.1 != a) else Memory.insert m a v

/-- The list is canonical from address `lo` up. -/
def Memory.wfFrom : Nat → Memory → Bool
  | _, [] => true
  | lo, (a, v) :: m => decide (lo ≤ a) && v != unwrittenByte && Memory.wfFrom (a + 1) m

/-- The canonical form: addresses strictly rising, no entry equal to what an unlisted cell reads as. -/
def Memory.wf (m : Memory) : Bool := Memory.wfFrom 0 m

end Sys2Proof.Machine
end

