-- ==== Sys2Proof/Machine/Ops.lean ====
section
/-! DEFINITION. The named operations over registers, memory, flags and ports: every read and write of State goes through
one of them (`spec/00_scope.md` R8 to R10, `spec/10_state.md`, `spec/20_memory.md`, `spec/47_io_unsupported.md`). There is
no operation that takes an exception: the hardware has none (R167, R171); the return is `State.returnFrom` (R172). -/

namespace Sys2Proof.Machine

/-! ### Registers -/

/-- Read `R[n]` (R13). -/
def State.reg (s : State) (n : Nibble) : Word := s.regs[n.toNat]'(n.isLt)

/-- Write `R[n]`; the 16-bit type is the reduction modulo 65536 (R8, R13). -/
def State.setReg (s : State) (n : Nibble) (v : Word) : State :=
  { s with regs := s.regs.set n.toNat v n.isLt }

/-- `pc`, that is `R[P]` for the `P` of the moment (R9, R16). -/
def State.pc (s : State) : Word := s.reg s.p

/-- `pc <- t` (R9). -/
def State.setPc (s : State) (t : Word) : State := s.setReg s.p t

/-- `R[X]`, the pointer register (R23). -/
def State.rx (s : State) : Word := s.reg s.x

/-- `P <- v` (R17). -/
def State.setP (s : State) (v : Nibble) : State := { s with p := v }

/-- `X <- v` (R23). -/
def State.setX (s : State) (v : Nibble) : State := { s with x := v }

/-- `D <- v` (R27). -/
def State.setD (s : State) (v : Byte) : State := { s with d := v }

/-- `DF <- v` (R18). -/
def State.setDF (s : State) (v : Bool) : State := { s with df := v }

/-- `Q <- v` (R19). -/
def State.setQ (s : State) (v : Bool) : State := { s with q := v }

/-- `IE <- v` (R20). -/
def State.setIE (s : State) (v : Bool) : State := { s with ie := v }

/-- `DBC <- v` (R30). -/
def State.setDbc (s : State) (v : Nat) : State := { s with dbc := v }

/-! ### Memory -/

/-- The value of `MemRead(a, 1)`: the cell in bounds, 0xFF out of bounds (R38). -/
def State.peek (s : State) (a : Word) : Byte :=
  if a.toNat < s.params.cap.val then Memory.read s.mem a.toNat else 0xFF

/-- The trace side of an opcode fetch: `LAST_FETCH <- a` (R42). -/
def State.noteFetch (s : State) (a : Word) : State := { s with trace := { s.trace with lastFetch := a } }

/-- The trace side of a data read: `LAST_RD <- a` (R42). -/
def State.noteRead (s : State) (a : Word) : State := { s with trace := { s.trace with lastRd := a } }

/-- `MemWrite(a, 1, v)`: store in bounds and with `MWE = 1`, else nothing (R39); `LAST_WR <- a` either way (R42). -/
def State.memWrite (s : State) (a : Word) (v : Byte) : State :=
  { s with
    trace := { s.trace with lastWr := a }
    mem := if a.toNat < s.params.cap.val && s.mwe then Memory.write s.mem a.toNat v else s.mem }

/-! ### The fetch phase, the cycle counter, the run state -/

/-- `N <- op[3:0]` (R29, R162). -/
def State.latchN (s : State) (op : Byte) : State := { s with n := loNibble op }

/-- The rest of the fetch phase once the opcode byte has been read: the program counter passes it and the latch `N` takes
its low nibble (R29, R162). -/
def State.passOpcode (s : State) (op : Byte) : State := (s.setPc (s.pc + 1)).latchN op

/-- The rest of the fetch phase of the halt byte: the program counter stays at it (R162, R164), and the latch `N` takes its
low nibble as at every fetch (R22, R29, D30), unless the parameter says otherwise (log 27). -/
def State.holdOpcode (s : State) (op : Byte) : State := if s.params.haltLatchesN then s.latchN op else s

/-- `CYC <- CYC + k` (R163). -/
def State.addCycles (s : State) (k : Nat) : State := { s with cyc := s.cyc + k }

/-- `RS <- r` (R25). -/
def State.setRs (s : State) (r : RunState) : State := { s with rs := r }

/-- `HADDR <- a` (R164). -/
def State.setHaddr (s : State) (a : Word) : State := { s with haddr := a }

/-! ### Ports, diagnostics -/

/-- The output port whose write raises the display-update flag (R24, R156). -/
def displayPort : Port := 4

/-- `PortOut(p, v)`: the event enters the output history, and every device of the list is presented with the byte once, in
the order of attachment (R154). -/
def State.portOut (s : State) (p : Port) (v : Byte) : State :=
  { s with ports := { s.ports with
      outHist := s.ports.outHist ++ [{ port := p, byte := v }]
      presented := s.ports.presented ++
        (s.ports.outDevs[p.toNat]'(p.isLt)).map (fun dev => { port := p, device := dev, byte := v }) } }

/-- `DISP <- 1` (R24, R156). -/
def State.raiseDisp (s : State) : State := { s with disp := true }

/-- `d.answer()`: a value or "no value" (R155). -/
def InDevice.answer (dev : InDevice) : Option Nat :=
  match dev.script with
  | r :: _ => r
  | [] => Config.deviceAnswer dev.name dev.asked

/-- The device after one request (R155). -/
def InDevice.afterAsk (dev : InDevice) : InDevice :=
  { dev with script := dev.script.tail, asked := dev.asked + 1 }

/-- The loop of R155 from the running value `v`: every device is asked, an answer that is a value replaces the running
value, reduced modulo 256. -/
def askAll : Byte → List InDevice → Byte
  | v, [] => v
  | v, dev :: devs =>
    match dev.answer with
    | some r => askAll (BitVec.ofNat 8 r) devs
    | none => askAll v devs

/-- The byte that `PortIn(p)` gives: from `INP_DEFAULT(p)`, the last device with a value wins (R155). -/
def State.portInByte (s : State) (p : Port) : Byte :=
  askAll (s.params.inpDefault[p.toNat]'(p.isLt)) (s.ports.inDevs[p.toNat]'(p.isLt))

/-- The devices of input port `p` after `PortIn(p)`: every one has been asked once (R155). -/
def State.portInAsked (s : State) (p : Port) : State :=
  { s with ports := { s.ports with
      inDevs := s.ports.inDevs.set p.toNat ((s.ports.inDevs[p.toNat]'(p.isLt)).map InDevice.afterAsk) p.isLt } }

/-- `Warn(op, a)`: the diagnostic enters the sticky list (R168). -/
def State.warn (s : State) (op : Byte) (a : Word) : State :=
  { s with diag := s.diag ++ [{ op := op, addr := a }] }

end Sys2Proof.Machine
end

