-- ==== Sys2Proof/Machine/Flags.lean ====
section
/-! DEFINITION. Every flag computation of the spec: the sums of `spec/43_arithmetic.md` R95 to R108 with `DF` as carry or
no-borrow, and the shifts of `spec/42_logic_shift.md` R89 to R93 with `DF` as the bit shifted out. -/

namespace Sys2Proof.Machine

/-- `D <- t mod 256` and `DF <- 1 if t > 255 else 0`, as a pair (R95). -/
def ofSum (t : Nat) : Byte × Bool := (BitVec.ofNat 8 t, decide (t > 255))

/-- `t <- m + D` (R97). -/
def addSum (m d : Byte) : Nat := m.toNat + d.toNat

/-- `t <- m + D + DF` (R99). -/
def addCarrySum (m d : Byte) (df : Bool) : Nat := m.toNat + d.toNat + df.toNat

/-- `t <- minuend + (0xFF - subtrahend) + 1` (R101, R105). -/
def subSum (minuend subtrahend : Byte) : Nat := minuend.toNat + (0xFF - subtrahend.toNat) + 1

/-- The same, and `if DF = 0 then t <- t - 1` before the overflow check (R103, R107). -/
def subBorrowSum (minuend subtrahend : Byte) (df : Bool) : Nat :=
  if df then subSum minuend subtrahend else subSum minuend subtrahend - 1

/-- SHR: `D <- D[7:1]`, `DF <- D[0]` (R90). -/
def shiftRight (d : Byte) : Byte × Bool := (0#1 ++ d.extractLsb' 1 7, d.getLsbD 0)

/-- SHRC: `D <- {c, D[7:1]}`, `DF <- D[0]`, with `c` the `DF` of before (R91). -/
def shiftRightCarry (d : Byte) (c : Bool) : Byte × Bool := (BitVec.ofBool c ++ d.extractLsb' 1 7, d.getLsbD 0)

/-- SHL: `D <- {D[6:0], 0}`, `DF <- D[7]` (R92). -/
def shiftLeft (d : Byte) : Byte × Bool := (d.extractLsb' 0 7 ++ 0#1, d.getLsbD 7)

/-- SHLC: `D <- {D[6:0], c}`, `DF <- D[7]`, with `c` the `DF` of before (R93). -/
def shiftLeftCarry (d : Byte) (c : Bool) : Byte × Bool := (d.extractLsb' 0 7 ++ BitVec.ofBool c, d.getLsbD 7)

/-- Write a result and its flag: `DF`, then `D`. -/
def State.setAlu (s : State) (r : Byte × Bool) : State := (s.setDF r.2).setD r.1

end Sys2Proof.Machine
end

