-- ==== Sys2Proof/Machine/Operands.lean ====
section
/-! DEFINITION. Every operand form, as an operation that the meanings share: register indirect and pointer indirect, with
or without post-modification, and immediate (`spec/41_load_store.md` R74); the branch and skip forms
(`spec/44_short_branch.md` R110, `spec/45_long_branch_skip.md` R128, R138); the return (`spec/46_control_mode.md` R148). -/

namespace Sys2Proof.Machine

/-! ### Addressing modes (R74) -/

/-- `FetchImm()` but for its value, which the decoded instruction carries (log 12): the operand byte at `pc` is read as
data and the program counter passes it (R10, R42). -/
def State.takeImm (s : State) : State := (s.noteRead s.pc).setPc (s.pc + 1)

/-- `D <- MemRead(R[n], 1)`, the register indirect and pointer indirect loads (R75, R77). -/
def State.loadFrom (s : State) (n : Nibble) : State := (s.noteRead (s.reg n)).setD (s.peek (s.reg n))

/-- `R[n] <- R[n] + 1` (R66, R74). -/
def State.incReg (s : State) (n : Nibble) : State := s.setReg n (s.reg n + 1)

/-- `R[n] <- R[n] - 1` (R67, R74). -/
def State.decReg (s : State) (n : Nibble) : State := s.setReg n (s.reg n - 1)

/-! ### The operand of a logic or arithmetic instruction (R82, R96) -/

/-- `D <- f m D` with `m = MemRead(R[X], 1)`; `DF` unchanged (R82). -/
def logicMem (f : Byte → Byte → Byte) (s : State) : Answer :=
  .next ((s.noteRead s.rx).setD (f (s.peek s.rx) s.d))

/-- `D <- f m D` with `m = FetchImm()`; `DF` unchanged (R82). -/
def logicImm (f : Byte → Byte → Byte) (m : Byte) (s : State) : Answer :=
  .next (s.takeImm.setD (f m s.d))

/-- `t <- f m D DF` with `m = MemRead(R[X], 1)`, then `DF` and `D` from `t` (R95, R96). -/
def arithMem (f : Byte → Byte → Bool → Nat) (s : State) : Answer :=
  .next ((s.noteRead s.rx).setAlu (ofSum (f (s.peek s.rx) s.d s.df)))

/-- `t <- f m D DF` with `m = FetchImm()`, then `DF` and `D` from `t` (R95, R96). -/
def arithImm (f : Byte → Byte → Bool → Nat) (m : Byte) (s : State) : Answer :=
  .next (s.takeImm.setAlu (ofSum (f m s.d s.df)))

/-! ### Branches and skips -/

/-- The execute phase of a short branch: taken, the low byte of `pc` is replaced by the operand byte and the high byte of
the operand byte's address is kept; not taken, `pc` passes the operand byte, which is not read (R110). -/
def shortBranch (taken : Bool) (a : Byte) (s : State) : Answer :=
  if taken then .next ((s.noteRead s.pc).setPc (joinBytes (hiByte s.pc) a))
  else .next (s.setPc (s.pc + 1))

/-- The execute phase of a long branch: taken, both operand bytes are read, the one at `pc` and then the one at `pc + 1`,
and `pc` becomes the target; not taken, `pc` passes both, which are not read (R128). -/
def longBranch (taken : Bool) (t : Word) (s : State) : Answer :=
  if taken then .next (((s.noteRead s.pc).noteRead (s.pc + 1)).setPc t)
  else .next (s.setPc (s.pc + 2))

/-- The execute phase of a long skip: nothing is read (R138). -/
def longSkip (taken : Bool) (s : State) : Answer :=
  if taken then .next (s.setPc (s.pc + 2)) else .next s

/-! ### The return from an interrupt (R148, R149, R172) -/

/-- The register that RET and DIS increment: the one the byte `b` was read through, or the one the new `X` selects when
`RET_INC_NEW_X` is set (R148). -/
def State.returnInc (s : State) (b : Byte) : Nibble := if s.params.retIncNewX then hiNibble b else s.x

/-- `b <- MemRead(R[X], 1); X <- b[7:4]; P <- b[3:0]`, then the increment, then `IE` (R148, R149). -/
def State.returnFrom (s : State) (ie : Bool) : State :=
  let b := s.peek s.rx
  ((((s.noteRead s.rx).setX (hiNibble b)).setP (loNibble b)).incReg (s.returnInc b)).setIE ie

end Sys2Proof.Machine
end

