-- ==== Sys2Proof/Machine/Arithmetic.lean ====
section
/-! DEFINITION. The meanings of `spec/43_arithmetic.md`: the execute phase of the twelve additions and subtractions. -/

namespace Sys2Proof.Machine

/-- ADD, `m = M[R[X]]`: `t <- m + D` (R97). -/
def execAdd (s : State) : Answer := arithMem (fun m d _ => addSum m d) s

/-- ADI, `m` the operand byte: `t <- m + D` (R98). -/
def execAdi (k : Byte) (s : State) : Answer := arithImm (fun m d _ => addSum m d) k s

/-- ADC, `m = M[R[X]]`: `t <- m + D + DF` (R99). -/
def execAdc (s : State) : Answer := arithMem addCarrySum s

/-- ADCI, `m` the operand byte: `t <- m + D + DF` (R100). -/
def execAdci (k : Byte) (s : State) : Answer := arithImm addCarrySum k s

/-- SD, `m = M[R[X]]`: `t <- m + (0xFF - D) + 1` (R101). -/
def execSd (s : State) : Answer := arithMem (fun m d _ => subSum m d) s

/-- SDI, `m` the operand byte: `t <- m + (0xFF - D) + 1` (R102). -/
def execSdi (k : Byte) (s : State) : Answer := arithImm (fun m d _ => subSum m d) k s

/-- SDB, `m = M[R[X]]`: `t <- m + (0xFF - D) + 1`, less 1 when `DF = 0` (R103). -/
def execSdb (s : State) : Answer := arithMem (fun m d df => subBorrowSum m d df) s

/-- SDBI, `m` the operand byte: `t <- m + (0xFF - D) + 1`, less 1 when `DF = 0` (R104). -/
def execSdbi (k : Byte) (s : State) : Answer := arithImm (fun m d df => subBorrowSum m d df) k s

/-- SM, `m = M[R[X]]`: `t <- D + (0xFF - m) + 1` (R105). -/
def execSm (s : State) : Answer := arithMem (fun m d _ => subSum d m) s

/-- SMI, `m` the operand byte: `t <- D + (0xFF - m) + 1` (R106). -/
def execSmi (k : Byte) (s : State) : Answer := arithImm (fun m d _ => subSum d m) k s

/-- SMB, `m = M[R[X]]`: `t <- D + (0xFF - m) + 1`, less 1 when `DF = 0` (R107). -/
def execSmb (s : State) : Answer := arithMem (fun m d df => subBorrowSum d m df) s

/-- SMBI, `m` the operand byte: `t <- D + (0xFF - m) + 1`, less 1 when `DF = 0` (R108). -/
def execSmbi (k : Byte) (s : State) : Answer := arithImm (fun m d df => subBorrowSum d m df) k s

end Sys2Proof.Machine
end

