-- ==== Sys2Proof/Machine/ControlMode.lean ====
section
/-! DEFINITION. The meanings of `spec/46_control_mode.md`: the execute phase of SEP, SEX, RET, DIS, SEQ, REQ, NOP. -/

namespace Sys2Proof.Machine

/-- SEP: `P <- N` (R146). -/
def execSep (n : Nibble) (s : State) : Answer := .next (s.setP n)

/-- SEX: `X <- N` (R147). -/
def execSex (n : Nibble) (s : State) : Answer := .next (s.setX n)

/-- RET: the return with `IE <- 1` (R148). -/
def execRet (s : State) : Answer := .next (s.returnFrom true)

/-- DIS: the return with `IE <- 0` (R149). -/
def execDis (s : State) : Answer := .next (s.returnFrom false)

/-- SEQ: `Q <- 1` (R150). -/
def execSeq (s : State) : Answer := .next (s.setQ true)

/-- REQ: `Q <- 0` (R151). -/
def execReq (s : State) : Answer := .next (s.setQ false)

/-- NOP: the skip whose condition never holds (R129, R152). -/
def execNop (s : State) : Answer := longSkip false s

end Sys2Proof.Machine
end

