-- ==== Sys2Proof/Syntax.lean ====
section
/-! DEFINITION. The instructions, one constructor per row of `spec/opcode_table.json`, in the table's order.
The operands are those of `spec/30_encoding.md` R57: a register number `n`, a port number `p`, an immediate byte `k`, the
low byte `a` of a short branch's target, the target `t` of a long branch. NBR and NLBR carry the bytes they pass over
(log 24). -/

namespace Sys2Proof

inductive Instr where
  /-- IDL, opcode 0x00 under mask 0xFF: R164. -/
  | idl
  /-- LDN, opcode 0x00 under mask 0xF0: R75. -/
  | ldn (n : Nibble)
  /-- INC, opcode 0x10 under mask 0xF0: R66. -/
  | inc (n : Nibble)
  /-- DEC, opcode 0x20 under mask 0xF0: R67. -/
  | dec (n : Nibble)
  /-- BR, opcode 0x30 under mask 0xFF: R112. -/
  | br (a : Byte)
  /-- BQ, opcode 0x31 under mask 0xFF: R113. -/
  | bq (a : Byte)
  /-- BZ, opcode 0x32 under mask 0xFF: R114. -/
  | bz (a : Byte)
  /-- BDF, opcode 0x33 under mask 0xFF: R115. -/
  | bdf (a : Byte)
  /-- B1, opcode 0x34 under mask 0xFF: R116. -/
  | b1 (a : Byte)
  /-- B2, opcode 0x35 under mask 0xFF: R117. -/
  | b2 (a : Byte)
  /-- B3, opcode 0x36 under mask 0xFF: R118. -/
  | b3 (a : Byte)
  /-- B4, opcode 0x37 under mask 0xFF: R119. -/
  | b4 (a : Byte)
  /-- NBR, opcode 0x38 under mask 0xFF: R120. -/
  | nbr (a : Byte)
  /-- BNQ, opcode 0x39 under mask 0xFF: R121. -/
  | bnq (a : Byte)
  /-- BNZ, opcode 0x3A under mask 0xFF: R122. -/
  | bnz (a : Byte)
  /-- BNF, opcode 0x3B under mask 0xFF: R123. -/
  | bnf (a : Byte)
  /-- BN1, opcode 0x3C under mask 0xFF: R124. -/
  | bn1 (a : Byte)
  /-- BN2, opcode 0x3D under mask 0xFF: R125. -/
  | bn2 (a : Byte)
  /-- BN3, opcode 0x3E under mask 0xFF: R126. -/
  | bn3 (a : Byte)
  /-- BN4, opcode 0x3F under mask 0xFF: R127. -/
  | bn4 (a : Byte)
  /-- LDA, opcode 0x40 under mask 0xF0: R76. -/
  | lda (n : Nibble)
  /-- STR, opcode 0x50 under mask 0xF0: R80. -/
  | str (n : Nibble)
  /-- IRX, opcode 0x60 under mask 0xFF: R68. -/
  | irx
  /-- OUT, opcode 0x60 under mask 0xF8: R156. -/
  | out (p : Port)
  /-- reserved_0x68, opcode 0x68 under mask 0xFF: R60. -/
  | reserved68
  /-- INP, opcode 0x68 under mask 0xF8: R157. -/
  | inp (p : Port)
  /-- RET, opcode 0x70 under mask 0xFF: R148. -/
  | ret
  /-- DIS, opcode 0x71 under mask 0xFF: R149. -/
  | dis
  /-- LDXA, opcode 0x72 under mask 0xFF: R78. -/
  | ldxa
  /-- STXD, opcode 0x73 under mask 0xFF: R81. -/
  | stxd
  /-- ADC, opcode 0x74 under mask 0xFF: R99. -/
  | adc
  /-- SDB, opcode 0x75 under mask 0xFF: R103. -/
  | sdb
  /-- SHRC, opcode 0x76 under mask 0xFF: R91. -/
  | shrc
  /-- SMB, opcode 0x77 under mask 0xFF: R107. -/
  | smb
  /-- SAV, opcode 0x78 under mask 0xFF: R158. -/
  | sav
  /-- MARK, opcode 0x79 under mask 0xFF: R159. -/
  | mark
  /-- REQ, opcode 0x7A under mask 0xFF: R151. -/
  | req
  /-- SEQ, opcode 0x7B under mask 0xFF: R150. -/
  | seq
  /-- ADCI, opcode 0x7C under mask 0xFF: R100. -/
  | adci (k : Byte)
  /-- SDBI, opcode 0x7D under mask 0xFF: R104. -/
  | sdbi (k : Byte)
  /-- SHLC, opcode 0x7E under mask 0xFF: R93. -/
  | shlc
  /-- SMBI, opcode 0x7F under mask 0xFF: R108. -/
  | smbi (k : Byte)
  /-- GLO, opcode 0x80 under mask 0xF0: R69. -/
  | glo (n : Nibble)
  /-- GHI, opcode 0x90 under mask 0xF0: R70. -/
  | ghi (n : Nibble)
  /-- PLO, opcode 0xA0 under mask 0xF0: R71. -/
  | plo (n : Nibble)
  /-- PHI, opcode 0xB0 under mask 0xF0: R72. -/
  | phi (n : Nibble)
  /-- LBR, opcode 0xC0 under mask 0xFF: R130. -/
  | lbr (t : Word)
  /-- LBQ, opcode 0xC1 under mask 0xFF: R131. -/
  | lbq (t : Word)
  /-- LBZ, opcode 0xC2 under mask 0xFF: R132. -/
  | lbz (t : Word)
  /-- LBDF, opcode 0xC3 under mask 0xFF: R133. -/
  | lbdf (t : Word)
  /-- NOP, opcode 0xC4 under mask 0xFF: R152. -/
  | nop
  /-- LSNQ, opcode 0xC5 under mask 0xFF: R139. -/
  | lsnq
  /-- LSNZ, opcode 0xC6 under mask 0xFF: R140. -/
  | lsnz
  /-- LSNF, opcode 0xC7 under mask 0xFF: R141. -/
  | lsnf
  /-- NLBR, opcode 0xC8 under mask 0xFF: R134. -/
  | nlbr (t : Word)
  /-- LBNQ, opcode 0xC9 under mask 0xFF: R135. -/
  | lbnq (t : Word)
  /-- LBNZ, opcode 0xCA under mask 0xFF: R136. -/
  | lbnz (t : Word)
  /-- LBNF, opcode 0xCB under mask 0xFF: R137. -/
  | lbnf (t : Word)
  /-- LSIE, opcode 0xCC under mask 0xFF: R142. -/
  | lsie
  /-- LSQ, opcode 0xCD under mask 0xFF: R143. -/
  | lsq
  /-- LSZ, opcode 0xCE under mask 0xFF: R144. -/
  | lsz
  /-- LSDF, opcode 0xCF under mask 0xFF: R145. -/
  | lsdf
  /-- SEP, opcode 0xD0 under mask 0xF0: R146. -/
  | sep (n : Nibble)
  /-- SEX, opcode 0xE0 under mask 0xF0: R147. -/
  | sex (n : Nibble)
  /-- LDX, opcode 0xF0 under mask 0xFF: R77. -/
  | ldx
  /-- OR, opcode 0xF1 under mask 0xFF: R83. -/
  | or
  /-- AND, opcode 0xF2 under mask 0xFF: R84. -/
  | and
  /-- XOR, opcode 0xF3 under mask 0xFF: R85. -/
  | xor
  /-- ADD, opcode 0xF4 under mask 0xFF: R97. -/
  | add
  /-- SD, opcode 0xF5 under mask 0xFF: R101. -/
  | sd
  /-- SHR, opcode 0xF6 under mask 0xFF: R90. -/
  | shr
  /-- SM, opcode 0xF7 under mask 0xFF: R105. -/
  | sm
  /-- LDI, opcode 0xF8 under mask 0xFF: R79. -/
  | ldi (k : Byte)
  /-- ORI, opcode 0xF9 under mask 0xFF: R86. -/
  | ori (k : Byte)
  /-- ANI, opcode 0xFA under mask 0xFF: R87. -/
  | ani (k : Byte)
  /-- XRI, opcode 0xFB under mask 0xFF: R88. -/
  | xri (k : Byte)
  /-- ADI, opcode 0xFC under mask 0xFF: R98. -/
  | adi (k : Byte)
  /-- SDI, opcode 0xFD under mask 0xFF: R102. -/
  | sdi (k : Byte)
  /-- SHL, opcode 0xFE under mask 0xFF: R92. -/
  | shl
  /-- SMI, opcode 0xFF under mask 0xFF: R106. -/
  | smi (k : Byte)
deriving DecidableEq, Repr

end Sys2Proof
end

