-- ==== Sys2Proof/Decode.lean ====
section
/-! DEFINITION. The decoder of `spec/30_encoding.md` (formats R55, lengths R56, operands R57, map R58, costs R62), the
decoder of one row of `spec/opcode_table.json`, and the encoder. -/

namespace Sys2Proof

open Sys2Proof.Machine (hiNibble loNibble portOf hiByte loByte joinBytes)

/-- The ten opcode bytes of format `IMM` (R55, R56). -/
def immOpcodes : List Byte := [0x7C, 0x7D, 0x7F, 0xF8, 0xF9, 0xFA, 0xFB, 0xFC, 0xFD, 0xFF]

/-- The eight opcode bytes of format `LBR` (R55, R56). -/
def longBranchOpcodes : List Byte := [0xC0, 0xC1, 0xC2, 0xC3, 0xC8, 0xC9, 0xCA, 0xCB]

/-- How many bytes an instruction occupies, by its opcode byte alone (R56). -/
def instrLength (op : Byte) : Nat :=
  if hiNibble op = 0x3 then 2
  else if op ∈ immOpcodes then 2
  else if op ∈ longBranchOpcodes then 3
  else 1

/-- `cost(op)`: 3 for the row 0xC0 to 0xCF, 2 for every other byte (R62). -/
def cost (op : Byte) : Nat := if hiNibble op = 0xC then 3 else 2

/-- Row 3 of the map of R58: the short branches (R111). -/
def decodeRow3 (n : Nibble) (a : Byte) : Instr :=
  match n.toNat with
  | 0 => .br a
  | 1 => .bq a
  | 2 => .bz a
  | 3 => .bdf a
  | 4 => .b1 a
  | 5 => .b2 a
  | 6 => .b3 a
  | 7 => .b4 a
  | 8 => .nbr a
  | 9 => .bnq a
  | 10 => .bnz a
  | 11 => .bnf a
  | 12 => .bn1 a
  | 13 => .bn2 a
  | 14 => .bn3 a
  | _ => .bn4 a

/-- Row 7 of the map of R58. -/
def decodeRow7 (n : Nibble) (a : Byte) : Instr :=
  match n.toNat with
  | 0 => .ret
  | 1 => .dis
  | 2 => .ldxa
  | 3 => .stxd
  | 4 => .adc
  | 5 => .sdb
  | 6 => .shrc
  | 7 => .smb
  | 8 => .sav
  | 9 => .mark
  | 10 => .req
  | 11 => .seq
  | 12 => .adci a
  | 13 => .sdbi a
  | 14 => .shlc
  | _ => .smbi a

/-- Row C of the map of R58: long branches and skips (R129). -/
def decodeRowC (n : Nibble) (t : Word) : Instr :=
  match n.toNat with
  | 0 => .lbr t
  | 1 => .lbq t
  | 2 => .lbz t
  | 3 => .lbdf t
  | 4 => .nop
  | 5 => .lsnq
  | 6 => .lsnz
  | 7 => .lsnf
  | 8 => .nlbr t
  | 9 => .lbnq t
  | 10 => .lbnz t
  | 11 => .lbnf t
  | 12 => .lsie
  | 13 => .lsq
  | 14 => .lsz
  | _ => .lsdf

/-- Row F of the map of R58. -/
def decodeRowF (n : Nibble) (a : Byte) : Instr :=
  match n.toNat with
  | 0 => .ldx
  | 1 => .or
  | 2 => .and
  | 3 => .xor
  | 4 => .add
  | 5 => .sd
  | 6 => .shr
  | 7 => .sm
  | 8 => .ldi a
  | 9 => .ori a
  | 10 => .ani a
  | 11 => .xri a
  | 12 => .adi a
  | 13 => .sdi a
  | 14 => .shl
  | _ => .smi a

/-- Row 6 of the map of R58: IRX, OUT 1 to 7, the reserved byte 0x68 (R60), INP 1 to 7. -/
def decodeRow6 (n : Nibble) : Instr :=
  if n = 0 then .irx
  else if n = 8 then .reserved68
  else if n.getLsbD 3 then .inp (portOf n)
  else .out (portOf n)

/-- The instruction whose opcode byte is `op` and whose next two bytes are `a` and `b`, as far as it has operand bytes:
total, all 256 opcode bytes decode (R54, R58). A long branch's target is `{a, b}` (R43, R57). -/
def decodeOp (op a b : Byte) : Instr :=
  let n := loNibble op
  match (hiNibble op).toNat with
  | 0 => if n = 0 then .idl else .ldn n
  | 1 => .inc n
  | 2 => .dec n
  | 3 => decodeRow3 n a
  | 4 => .lda n
  | 5 => .str n
  | 6 => decodeRow6 n
  | 7 => decodeRow7 n a
  | 8 => .glo n
  | 9 => .ghi n
  | 10 => .plo n
  | 11 => .phi n
  | 12 => decodeRowC n (joinBytes a b)
  | 13 => .sep n
  | 14 => .sex n
  | _ => decodeRowF n a

/-- Why a list of bytes holds no whole instruction. No opcode byte is rejected (R54). -/
inductive DecodeError where
  /-- The list is empty. -/
  | noByte
  /-- The list ends before the operand bytes that the opcode byte `op` asks for (R56). -/
  | truncated (op : Byte)
deriving DecidableEq, Repr

/-- Read one instruction from the front of a list of bytes, opcode byte first (R43, R54), and answer it with the rest of
the list. -/
def decode : List Byte → Except DecodeError (Instr × List Byte)
  | [] => .error .noByte
  | op :: rest =>
    match instrLength op, rest with
    | 1, _ => .ok (decodeOp op 0 0, rest)
    | 2, a :: rest' => .ok (decodeOp op a 0, rest')
    | 3, a :: b :: rest' => .ok (decodeOp op a b, rest')
    | _, _ => .error (.truncated op)

/-- The bytes of a table row's instruction in the order of their addresses: byte `k` is bits `8k+7..8k` of `w`, and every
bit from `nbits` up is 0, to the longest instruction's 3 bytes. -/
def tableBytes (nbits w : Nat) : List Byte :=
  let v := w % 2 ^ nbits
  [BitVec.ofNat 8 v, BitVec.ofNat 8 (v / 2 ^ 8), BitVec.ofNat 8 (v / 2 ^ 16)]

/-- The instruction the decoder reads from an instruction whose bits are `w`, numbered as `spec/opcode_table.json` numbers
them: bit 0 is the least significant bit of the opcode byte, the second byte is bits 15..8. -/
def decodeTableWord (nbits w : Nat) : Option Instr :=
  match decode (tableBytes nbits w) with
  | .ok (i, _) => some i
  | .error _ => none

/-- The opcode byte `iiiinnnn` of format `REG` (R55). -/
def regOpcode (row n : Nibble) : Byte := row ++ n

/-- The opcode byte `0110dppp` of format `IO`: `d` = 0 output, 1 input (R55). -/
def ioOpcode (input : Bool) (p : Port) : Byte := (if input then 0b01101#5 else 0b01100#5) ++ p

/-- The opcode byte of an instruction (R58). -/
def opcode : Instr → Byte
  | .idl => 0x00
  | .ldn n => regOpcode 0x0 n
  | .inc n => regOpcode 0x1 n
  | .dec n => regOpcode 0x2 n
  | .br _ => 0x30
  | .bq _ => 0x31
  | .bz _ => 0x32
  | .bdf _ => 0x33
  | .b1 _ => 0x34
  | .b2 _ => 0x35
  | .b3 _ => 0x36
  | .b4 _ => 0x37
  | .nbr _ => 0x38
  | .bnq _ => 0x39
  | .bnz _ => 0x3A
  | .bnf _ => 0x3B
  | .bn1 _ => 0x3C
  | .bn2 _ => 0x3D
  | .bn3 _ => 0x3E
  | .bn4 _ => 0x3F
  | .lda n => regOpcode 0x4 n
  | .str n => regOpcode 0x5 n
  | .irx => 0x60
  | .out p => ioOpcode false p
  | .reserved68 => 0x68
  | .inp p => ioOpcode true p
  | .ret => 0x70
  | .dis => 0x71
  | .ldxa => 0x72
  | .stxd => 0x73
  | .adc => 0x74
  | .sdb => 0x75
  | .shrc => 0x76
  | .smb => 0x77
  | .sav => 0x78
  | .mark => 0x79
  | .req => 0x7A
  | .seq => 0x7B
  | .adci _ => 0x7C
  | .sdbi _ => 0x7D
  | .shlc => 0x7E
  | .smbi _ => 0x7F
  | .glo n => regOpcode 0x8 n
  | .ghi n => regOpcode 0x9 n
  | .plo n => regOpcode 0xA n
  | .phi n => regOpcode 0xB n
  | .lbr _ => 0xC0
  | .lbq _ => 0xC1
  | .lbz _ => 0xC2
  | .lbdf _ => 0xC3
  | .nop => 0xC4
  | .lsnq => 0xC5
  | .lsnz => 0xC6
  | .lsnf => 0xC7
  | .nlbr _ => 0xC8
  | .lbnq _ => 0xC9
  | .lbnz _ => 0xCA
  | .lbnf _ => 0xCB
  | .lsie => 0xCC
  | .lsq => 0xCD
  | .lsz => 0xCE
  | .lsdf => 0xCF
  | .sep n => regOpcode 0xD n
  | .sex n => regOpcode 0xE n
  | .ldx => 0xF0
  | .or => 0xF1
  | .and => 0xF2
  | .xor => 0xF3
  | .add => 0xF4
  | .sd => 0xF5
  | .shr => 0xF6
  | .sm => 0xF7
  | .ldi _ => 0xF8
  | .ori _ => 0xF9
  | .ani _ => 0xFA
  | .xri _ => 0xFB
  | .adi _ => 0xFC
  | .sdi _ => 0xFD
  | .shl => 0xFE
  | .smi _ => 0xFF

/-- The operand bytes of an instruction in the order of their addresses; a long branch's high byte first (R43, R57). -/
def operandBytes : Instr → List Byte
  | .idl => []
  | .ldn _ => []
  | .inc _ => []
  | .dec _ => []
  | .br a => [a]
  | .bq a => [a]
  | .bz a => [a]
  | .bdf a => [a]
  | .b1 a => [a]
  | .b2 a => [a]
  | .b3 a => [a]
  | .b4 a => [a]
  | .nbr a => [a]
  | .bnq a => [a]
  | .bnz a => [a]
  | .bnf a => [a]
  | .bn1 a => [a]
  | .bn2 a => [a]
  | .bn3 a => [a]
  | .bn4 a => [a]
  | .lda _ => []
  | .str _ => []
  | .irx => []
  | .out _ => []
  | .reserved68 => []
  | .inp _ => []
  | .ret => []
  | .dis => []
  | .ldxa => []
  | .stxd => []
  | .adc => []
  | .sdb => []
  | .shrc => []
  | .smb => []
  | .sav => []
  | .mark => []
  | .req => []
  | .seq => []
  | .adci a => [a]
  | .sdbi a => [a]
  | .shlc => []
  | .smbi a => [a]
  | .glo _ => []
  | .ghi _ => []
  | .plo _ => []
  | .phi _ => []
  | .lbr t => [hiByte t, loByte t]
  | .lbq t => [hiByte t, loByte t]
  | .lbz t => [hiByte t, loByte t]
  | .lbdf t => [hiByte t, loByte t]
  | .nop => []
  | .lsnq => []
  | .lsnz => []
  | .lsnf => []
  | .nlbr t => [hiByte t, loByte t]
  | .lbnq t => [hiByte t, loByte t]
  | .lbnz t => [hiByte t, loByte t]
  | .lbnf t => [hiByte t, loByte t]
  | .lsie => []
  | .lsq => []
  | .lsz => []
  | .lsdf => []
  | .sep _ => []
  | .sex _ => []
  | .ldx => []
  | .or => []
  | .and => []
  | .xor => []
  | .add => []
  | .sd => []
  | .shr => []
  | .sm => []
  | .ldi a => [a]
  | .ori a => [a]
  | .ani a => [a]
  | .xri a => [a]
  | .adi a => [a]
  | .sdi a => [a]
  | .shl => []
  | .smi a => [a]

/-- The encoding of an instruction: its opcode byte, then its operand bytes (R43, R55). -/
def encode (i : Instr) : List Byte := opcode i :: operandBytes i

end Sys2Proof
end

