-- ==== Sys2Proof/Machine/Halt.lean ====
section
/-! DEFINITION. The meaning of `spec/48_execution_loop.md` R164, IDL. Its state `s` is the one in which the opcode byte has been read and
the program counter still holds its address: the halt acts in the fetch phase, before the advance (R162; log 11). -/

namespace Sys2Proof.Machine

/-- IDL, the halt: `HADDR <- a`, `RS <- HALTED`, `R[P] <- a + HALT_PC_ADVANCE`, and `CYC <- CYC + 2` if `HALT_COST_COUNTED`
(R164). -/
def execIdl (s : State) : Answer :=
  let t := (s.setHaddr s.pc).setRs .halted
  let u := if s.params.haltPcAdvance then t.setPc (s.pc + 1) else t
  .next (if s.params.haltCostCounted then u.addCycles (cost 0x00) else u)

end Sys2Proof.Machine
end

