-- ==== Sys2Proof/Machine/InputOutput.lean ====
section
/-! DEFINITION. The meanings of `spec/47_io_unsupported.md` (OUT, INP, SAV, MARK) and of the reserved byte of
`spec/30_encoding.md` R60. -/

namespace Sys2Proof.Machine

/-- OUT: the byte at `R[X]` goes out, `R[X] <- R[X] + 1`, port 4 raises `DISP` (R156). -/
def execOut (p : Port) (s : State) : Answer :=
  let t := (((s.noteRead s.rx).portOut p (s.peek s.rx)).incReg s.x)
  .next (if p = displayPort then t.raiseDisp else t)

/-- INP: the byte that the devices supply is written at `R[X]` and loaded into `D` (R157). -/
def execInp (p : Port) (s : State) : Answer :=
  .next (((s.portInAsked p).memWrite s.rx (s.portInByte p)).setD (s.portInByte p))

/-- SAV: the diagnostic with the address of the opcode byte, nothing else (R158). -/
def execSav (s : State) : Answer := .next (s.warn 0x78 (s.pc - 1))

/-- MARK: the diagnostic with the address of the opcode byte, nothing else (R159). -/
def execMark (s : State) : Answer := .next (s.warn 0x79 (s.pc - 1))

/-- The reserved byte 0x68: refused (R60, `RSV68 = refuse`; log 16). -/
def execReserved68 (_s : State) : Answer := .refused .reservedOpcode

end Sys2Proof.Machine
end

