-- ==== Sys2Proof/Machine/LoadStore.lean ====
section
/-! DEFINITION. The meanings of `spec/41_load_store.md`: the execute phase of LDN, LDA, LDX, LDXA, LDI, STR, STXD. -/

namespace Sys2Proof.Machine

/-- LDN: `D <- MemRead(R[n], 1)` (R75). -/
def execLdn (n : Nibble) (s : State) : Answer := .next (s.loadFrom n)

/-- LDA: `D <- MemRead(R[n], 1)`, then `R[n] <- R[n] + 1` (R76). -/
def execLda (n : Nibble) (s : State) : Answer := .next ((s.loadFrom n).incReg n)

/-- LDX: `D <- MemRead(R[X], 1)` (R77). -/
def execLdx (s : State) : Answer := .next (s.loadFrom s.x)

/-- LDXA: `D <- MemRead(R[X], 1)`, then `R[X] <- R[X] + 1` (R78). -/
def execLdxa (s : State) : Answer := .next ((s.loadFrom s.x).incReg s.x)

/-- LDI: `D <- FetchImm()` (R79). -/
def execLdi (k : Byte) (s : State) : Answer := .next (s.takeImm.setD k)

/-- STR: `MemWrite(R[n], 1, D)` (R80). -/
def execStr (n : Nibble) (s : State) : Answer := .next (s.memWrite (s.reg n) s.d)

/-- STXD: `MemWrite(R[X], 1, D)`, then `R[X] <- R[X] - 1` (R81). -/
def execStxd (s : State) : Answer := .next ((s.memWrite s.rx s.d).decReg s.x)

end Sys2Proof.Machine
end

