-- ==== Sys2Proof/Machine/LogicShift.lean ====
section
/-! DEFINITION. The meanings of `spec/42_logic_shift.md`: the execute phase of OR, AND, XOR, ORI, ANI, XRI, SHR, SHRC, SHL, SHLC. -/

namespace Sys2Proof.Machine

/-- OR: `D <- MemRead(R[X], 1) | D` (R83). -/
def execOr (s : State) : Answer := logicMem (fun m d => m ||| d) s

/-- AND: `D <- MemRead(R[X], 1) & D` (R84). -/
def execAnd (s : State) : Answer := logicMem (fun m d => m &&& d) s

/-- XOR: `D <- MemRead(R[X], 1) ^ D` (R85). -/
def execXor (s : State) : Answer := logicMem (fun m d => m ^^^ d) s

/-- ORI: `D <- FetchImm() | D` (R86). -/
def execOri (k : Byte) (s : State) : Answer := logicImm (fun m d => m ||| d) k s

/-- ANI: `D <- FetchImm() & D` (R87). -/
def execAni (k : Byte) (s : State) : Answer := logicImm (fun m d => m &&& d) k s

/-- XRI: `D <- FetchImm() ^ D` (R88). -/
def execXri (k : Byte) (s : State) : Answer := logicImm (fun m d => m ^^^ d) k s

/-- SHR (R90). -/
def execShr (s : State) : Answer := .next (s.setAlu (shiftRight s.d))

/-- SHRC (R91). -/
def execShrc (s : State) : Answer := .next (s.setAlu (shiftRightCarry s.d s.df))

/-- SHL (R92). -/
def execShl (s : State) : Answer := .next (s.setAlu (shiftLeft s.d))

/-- SHLC (R93). -/
def execShlc (s : State) : Answer := .next (s.setAlu (shiftLeftCarry s.d s.df))

end Sys2Proof.Machine
end

