-- ==== Sys2Proof/Machine/LongBranchSkip.lean ====
section
/-! DEFINITION. The meanings of `spec/45_long_branch_skip.md`: the execute phase of the long branches and long skips
(conditions: R129). -/

namespace Sys2Proof.Machine

/-- LBR: taken always (R130). -/
def execLbr (t : Word) (s : State) : Answer := longBranch true t s

/-- LBQ: taken `Q = 1` (R131). -/
def execLbq (t : Word) (s : State) : Answer := longBranch s.q t s

/-- LBZ: taken `D = 0` (R132). -/
def execLbz (t : Word) (s : State) : Answer := longBranch (s.d == 0) t s

/-- LBDF: taken `DF = 1` (R133). -/
def execLbdf (t : Word) (s : State) : Answer := longBranch s.df t s

/-- NLBR: taken never (R134). -/
def execNlbr (t : Word) (s : State) : Answer := longBranch false t s

/-- LBNQ: taken `Q = 0` (R135). -/
def execLbnq (t : Word) (s : State) : Answer := longBranch (!s.q) t s

/-- LBNZ: taken `D != 0` (R136). -/
def execLbnz (t : Word) (s : State) : Answer := longBranch (s.d != 0) t s

/-- LBNF: taken `DF = 0` (R137). -/
def execLbnf (t : Word) (s : State) : Answer := longBranch (!s.df) t s

/-- LSNQ: skips when `Q = 0` (R139). -/
def execLsnq (s : State) : Answer := longSkip (!s.q) s

/-- LSNZ: skips when `D != 0` (R140). -/
def execLsnz (s : State) : Answer := longSkip (s.d != 0) s

/-- LSNF: skips when `DF = 0` (R141). -/
def execLsnf (s : State) : Answer := longSkip (!s.df) s

/-- LSIE: skips when `IE = 1` (R142). -/
def execLsie (s : State) : Answer := longSkip s.ie s

/-- LSQ: skips when `Q = 1` (R143). -/
def execLsq (s : State) : Answer := longSkip s.q s

/-- LSZ: skips when `D = 0` (R144). -/
def execLsz (s : State) : Answer := longSkip (s.d == 0) s

/-- LSDF: skips when `DF = 1` (R145). -/
def execLsdf (s : State) : Answer := longSkip s.df s

end Sys2Proof.Machine
end

