-- ==== Sys2Proof/Machine/RegisterTransfer.lean ====
section
/-! DEFINITION. The meanings of `spec/40_register_transfer.md`: the execute phase of INC, DEC, IRX, GLO, GHI, PLO, PHI. -/

namespace Sys2Proof.Machine

/-- INC: `R[n] <- R[n] + 1` (R66). -/
def execInc (n : Nibble) (s : State) : Answer := .next (s.incReg n)

/-- DEC: `R[n] <- R[n] - 1` (R67). -/
def execDec (n : Nibble) (s : State) : Answer := .next (s.decReg n)

/-- IRX: `R[X] <- R[X] + 1`, no port (R68). -/
def execIrx (s : State) : Answer := .next (s.incReg s.x)

/-- GLO: `D <- R[n][7:0]` (R69). -/
def execGlo (n : Nibble) (s : State) : Answer := .next (s.setD (loByte (s.reg n)))

/-- GHI: `D <- R[n][15:8]` (R70). -/
def execGhi (n : Nibble) (s : State) : Answer := .next (s.setD (hiByte (s.reg n)))

/-- PLO: `R[n] <- {R[n][15:8], D}` (R71). -/
def execPlo (n : Nibble) (s : State) : Answer := .next (s.setReg n (joinBytes (hiByte (s.reg n)) s.d))

/-- PHI: `R[n] <- {D, R[n][7:0]}` (R72). -/
def execPhi (n : Nibble) (s : State) : Answer := .next (s.setReg n (joinBytes s.d (loByte (s.reg n))))

end Sys2Proof.Machine
end

