-- ==== Sys2Proof/Machine/ShortBranch.lean ====
section
/-! DEFINITION. The meanings of `spec/44_short_branch.md`: the execute phase of the sixteen short branches (conditions: R111). -/

namespace Sys2Proof.Machine

/-- BR: taken always (R112). -/
def execBr (a : Byte) (s : State) : Answer := shortBranch true a s

/-- BQ: taken `Q = 1` (R113). -/
def execBq (a : Byte) (s : State) : Answer := shortBranch s.q a s

/-- BZ: taken `D = 0` (R114). -/
def execBz (a : Byte) (s : State) : Answer := shortBranch (s.d == 0) a s

/-- BDF: taken `DF = 1` (R115). -/
def execBdf (a : Byte) (s : State) : Answer := shortBranch s.df a s

/-- B1: taken `EF[1] = 1` (R116). -/
def execB1 (a : Byte) (s : State) : Answer := shortBranch s.ef1 a s

/-- B2: taken `EF[2] = 1` (R117). -/
def execB2 (a : Byte) (s : State) : Answer := shortBranch s.ef2 a s

/-- B3: taken `EF[3] = 1` (R118). -/
def execB3 (a : Byte) (s : State) : Answer := shortBranch s.ef3 a s

/-- B4: taken `EF[4] = 1` (R119). -/
def execB4 (a : Byte) (s : State) : Answer := shortBranch s.ef4 a s

/-- NBR: taken never (R120). -/
def execNbr (a : Byte) (s : State) : Answer := shortBranch false a s

/-- BNQ: taken `Q = 0` (R121). -/
def execBnq (a : Byte) (s : State) : Answer := shortBranch (!s.q) a s

/-- BNZ: taken `D != 0` (R122). -/
def execBnz (a : Byte) (s : State) : Answer := shortBranch (s.d != 0) a s

/-- BNF: taken `DF = 0` (R123). -/
def execBnf (a : Byte) (s : State) : Answer := shortBranch (!s.df) a s

/-- BN1: taken `EF[1] = 0` (R124). -/
def execBn1 (a : Byte) (s : State) : Answer := shortBranch (!s.ef1) a s

/-- BN2: taken `EF[2] = 0` (R125). -/
def execBn2 (a : Byte) (s : State) : Answer := shortBranch (!s.ef2) a s

/-- BN3: taken `EF[3] = 0` (R126). -/
def execBn3 (a : Byte) (s : State) : Answer := shortBranch (!s.ef3) a s

/-- BN4: taken when `EF[4] = 0` and `DBC != 0`, and `DBC` is decremented exactly when it is taken (R127). -/
def execBn4 (a : Byte) (s : State) : Answer :=
  if !s.ef4 && s.dbc != 0 then shortBranch true a (s.setDbc (s.dbc - 1)) else shortBranch false a s

end Sys2Proof.Machine
end

