-- ==== Sys2Proof/Machine/Fetch.lean ====
section
/-! DEFINITION. What the fetch phase reads (`spec/48_execution_loop.md` R162) and how an instruction's bytes are laid out
in memory (`spec/20_memory.md` R43). -/

namespace Sys2Proof.Machine

/-- The bytes from which the instruction at `pc` is read, in ascending address order with wrap-around: the longest
instruction has three (R43, R44, R56). -/
def State.fetchBytes (s : State) : List Byte := [s.peek s.pc, s.peek (s.pc + 1), s.peek (s.pc + 2)]

/-- The opcode byte at `pc` (R162). -/
def State.fetchOpcode (s : State) : Byte := s.peek s.pc

/-- The instruction at `pc`, its operand bytes with it (R54, R57; log 12). -/
def State.fetchInstr (s : State) : Instr := decodeOp (s.peek s.pc) (s.peek (s.pc + 1)) (s.peek (s.pc + 2))

/-- Store bytes at an address and the ones after it, lowest address first, wrapping at 65536. Bytes beyond `CAP` do not
exist and are dropped (R37, R46). -/
def State.placeBytes (s : State) (a : Word) : List Byte → State
  | [] => s
  | b :: bs =>
    State.placeBytes
      { s with mem := if a.toNat < s.params.cap.val then Memory.write s.mem a.toNat b else s.mem } (a + 1) bs

end Sys2Proof.Machine
end

