-- ==== Sys2Proof/Machine/HostPort.lean ====
section
/-! DEFINITION. The operations of the host (`spec/10_state.md` R35): what each does to the state, between runs. -/

namespace Sys2Proof.Machine

/-- The operation `reset`: exactly the writes of R179, everything else left as it was. -/
def State.hostReset (s : State) : State :=
  { s with
    d := 0, bus := 0, p := 0, x := 0, n := 0, ie := true, q := false
    ef1 := true, ef2 := true, ef3 := true, ef4 := true
    regs := s.regs.set 0 0
    rs := .idle }

/-- The operation `clear_registers`: `R[i] <- 0` for every `i` (R181). -/
def State.clearRegisters (s : State) : State := { s with regs := Vector.replicate 16 0 }

/-- The operation `clear_memory`: `M[a] <- 0` for every `a`, whatever `MWE` (R182). No cell listed is every cell 0. -/
def State.clearMemory (s : State) : State := { s with mem := [] }

/-- Run entry with the seed drawn (R160): `DBC`, then `EF[4]`, then `R[P]` if a start address is given, then `CYC`, `RS`;
the budget is held for the loop of R161. -/
def State.runEntry (s : State) (seed : Nat) (limit start : Int) : State :=
  let t := { s with dbc := seed, ef4 := s.env.inLine }
  let u := if 0 ≤ start then t.setPc (BitVec.ofNat 16 start.toNat) else t
  { u with cyc := 0, rs := .running, limit := limit }

/-- A run entry as the machine makes it: the seed is the free value of this run, and the run is counted (log 7). -/
def State.enterRun (s : State) (limit start : Int) : State :=
  let t := s.runEntry (Config.dbcSeed s.env.runs) limit start
  { t with env := { t.env with runs := t.env.runs + 1 } }

/-- The operation `disp_clear` (R24). -/
def State.dispClear (s : State) : State := { s with disp := false }

/-- The environment sets an external flag (R21). -/
def State.setEf (s : State) (f : ExternalFlag) (v : Bool) : State :=
  match f with
  | .ef1 => { s with ef1 := v }
  | .ef2 => { s with ef2 := v }
  | .ef3 => { s with ef3 := v }

/-- What a host read at address `a` returns: `MemRead(a, 1)`, the trace untouched (R37, R50). -/
def State.hostRead (s : State) (a : Nat) : Byte := s.peek (BitVec.ofNat 16 a)

/-- A host write: `v mod 256` at `a mod 65536` if in bounds, whatever `MWE`, the trace untouched (R37, R50). -/
def State.hostWrite (s : State) (a v : Nat) : State :=
  { s with mem := if a % 65536 < s.params.cap.val then Memory.write s.mem (a % 65536) (BitVec.ofNat 8 v) else s.mem }

/-- The port number that the host gives, reduced to its low 3 bits (R153). -/
def hostPort (port : Nat) : Port := BitVec.ofNat 3 port

/-- Attach an output device: append-only (R153). -/
def State.attachOut (s : State) (port device : Nat) : State :=
  let p := hostPort port
  { s with ports := { s.ports with
      outDevs := s.ports.outDevs.set p.toNat (s.ports.outDevs[p.toNat]'(p.isLt) ++ [device]) p.isLt } }

/-- Attach an input device: append-only (R153). -/
def State.attachIn (s : State) (port : Nat) (device : InDevice) : State :=
  let p := hostPort port
  { s with ports := { s.ports with
      inDevs := s.ports.inDevs.set p.toNat (s.ports.inDevs[p.toNat]'(p.isLt) ++ [device]) p.isLt } }

/-- One operation of the host, atomic (R35). -/
def State.hostOp (s : State) (op : HostOp) : State :=
  match op with
  | .reset => s.hostReset
  | .clearRegisters => s.clearRegisters
  | .clearMemory => s.clearMemory
  | .run limit start => s.enterRun limit start
  | .dispClear => s.dispClear
  | .setMwe level => { s with mwe := level }
  | .setInLine level => { s with env := { s.env with inLine := level } }
  | .setEf flag level => s.setEf flag level
  | .readMemory addr =>
    { s with env := { s.env with replies := s.env.replies ++ [(BitVec.ofNat 16 addr, s.hostRead addr)] } }
  | .writeMemory addr value => s.hostWrite addr value
  | .attachOut port device => s.attachOut port device
  | .attachIn port device => s.attachIn port device

/-- What happens while no run is in progress: the next request of the host is served; without one the core does nothing
(R50, R178; log 9). -/
def State.betweenRuns (s : State) : State :=
  match s.env.pending with
  | [] => s
  | op :: rest => State.hostOp { s with env := { s.env with pending := rest } } op

/-- The result of a run (R165). -/
inductive RunResult where
  /-- `Halted(a)`. -/
  | halted (addr : Word)
  /-- `Continue`. -/
  | callAgain
deriving DecidableEq, Repr

/-- The result of the run that ended last, read from `RS` and `HADDR` (R25, R165); none while a run is in progress and
before the first one. -/
def State.runResult (s : State) : Option RunResult :=
  match s.rs with
  | .halted => some (.halted s.haddr)
  | .yielded => some .callAgain
  | .exhausted => some .callAgain
  | .idle => none
  | .running => none

end Sys2Proof.Machine
end

