-- ==== Sys2Proof/Machine/Loop.lean ====
section
/-! DEFINITION. The execution loop of `spec/48_execution_loop.md` R161 to R164, one turn a step. -/

namespace Sys2Proof.Machine

/-- The state in which the execute phase of the instruction with opcode byte `op` runs (R162). The halt acts before the
program counter is advanced (R162, R164). -/
def State.fetched (s : State) (op : Byte) : State :=
  if op = 0x00 then (s.noteFetch s.pc).holdOpcode op else (s.noteFetch s.pc).passOpcode op

/-- The end of an instruction: its cost is added to `CYC` (R163). The halt adds its own, if at all (R164). -/
def finish (op : Byte) (r : Answer) : Answer :=
  match r with
  | .next t => .next (if op = 0x00 then t else t.addCycles (cost op))
  | .fault e => .fault e
  | .refused e => .refused e

/-- One instruction: fetch phase, execute phase, cost (R162, R163). -/
def runInstr (s : State) : Answer :=
  finish s.fetchOpcode (exec s.fetchInstr (s.fetched s.fetchOpcode))

/-- One turn of the loop: the yield flag, then the budget, then one instruction (R161, R170). -/
def runTurn (s : State) : Answer :=
  if s.disp then .next (s.setRs .yielded)
  else if s.limit ≤ (s.cyc : Int) then .next (s.setRs .exhausted)
  else runInstr s

/-- One step of the whole machine: a turn of the loop while a run is in progress, else what the host asks for (R35). -/
def machineStep (s : State) : Answer :=
  match s.rs with
  | .running => runTurn s
  | .idle => .next s.betweenRuns
  | .halted => .next s.betweenRuns
  | .yielded => .next s.betweenRuns
  | .exhausted => .next s.betweenRuns

/-- Make the next step fetch: a run is in progress, the yield flag is down and the budget is not used up (R161). -/
def State.readyToFetch (s : State) : State :=
  { s with rs := .running, disp := false, limit := max s.limit (s.cyc + 1) }

end Sys2Proof.Machine
end

