-- ==== Sys2Proof/Machine/Step.lean ====
section
/-! DEFINITION. The step of the machine, and the placing of an instruction where the next step fetches. -/

namespace Sys2Proof.Machine

/-- One step (R35, R161). -/
def step (s : State) : Host.Outcome State Fault Refusal := machineStep s

/-- `s` with the instruction's bytes at `pc`, a run in progress and the stop tests open, so that the very next step fetches
and runs it (log 10). -/
def State.withFetchWord (s : State) (nbits w : Nat) : State :=
  (s.placeBytes s.pc (tableBytes nbits w)).readyToFetch

end Sys2Proof.Machine
end

