-- ==== Sys2Proof/Safety.lean ====
section
/-! DEFINITION. The terms in which claims speak: what an instruction may change and that it changes nothing else, and the
invariant that every step keeps. -/

namespace Sys2Proof.Machine

/-- What may change; all else must not. -/
structure Touch where
  /-- The general registers that may change. The program counter is one of them, `R[P]`. -/
  regs : List Nibble := []
  p : Bool := false
  x : Bool := false
  d : Bool := false
  df : Bool := false
  ie : Bool := false
  q : Bool := false
  dbc : Bool := false
  /-- The address whose byte may change. -/
  mem : Option Word := none
  trace : Bool := false
  rs : Bool := false
  haddr : Bool := false
  cyc : Bool := false
  disp : Bool := false
  ports : Bool := false
  diag : Bool := false

/-- From `s` to `t` nothing has changed but what `k` lists: the frame of an instruction. Memory is compared by the read of
every byte. -/
structure OnlyTouches (k : Touch) (s t : State) : Prop where
  regs : ∀ m, m ∉ k.regs → t.reg m = s.reg m
  p : k.p = false → t.p = s.p
  x : k.x = false → t.x = s.x
  n : t.n = s.n
  d : k.d = false → t.d = s.d
  df : k.df = false → t.df = s.df
  ie : k.ie = false → t.ie = s.ie
  q : k.q = false → t.q = s.q
  ef1 : t.ef1 = s.ef1
  ef2 : t.ef2 = s.ef2
  ef3 : t.ef3 = s.ef3
  ef4 : t.ef4 = s.ef4
  dbc : k.dbc = false → t.dbc = s.dbc
  mem : ∀ a : Word, k.mem ≠ some a → t.peek a = s.peek a
  mwe : t.mwe = s.mwe
  bus : t.bus = s.bus
  trace : k.trace = false → t.trace = s.trace
  rs : k.rs = false → t.rs = s.rs
  haddr : k.haddr = false → t.haddr = s.haddr
  cyc : k.cyc = false → t.cyc = s.cyc
  limit : t.limit = s.limit
  disp : k.disp = false → t.disp = s.disp
  ports : k.ports = false → t.ports = s.ports
  diag : k.diag = false → t.diag = s.diag
  env : t.env = s.env
  params : t.params = s.params

/-- The next step fetches: a run is in progress and neither stop test holds (R161). -/
def State.fetches (s : State) : Prop := s.rs = .running ∧ s.disp = false ∧ (s.cyc : Int) < s.limit

/-- The invariant of the machine.
`memory`: the memory list is canonical. `bounds`: it lists no cell at `CAP` or above (R36).
`budget`: a run overshoots its budget by at most 2 (R161).
`outputs`: every output has gone to one of the ports 1 to 7 (R28, R153).
`warnings`: every diagnostic is SAV's or MARK's (R61, R168). -/
structure State.Inv (s : State) : Prop where
  memory : Memory.wf s.mem = true
  bounds : ∀ c ∈ s.mem, c.1 < s.params.cap.val
  budget : (s.cyc : Int) ≤ max 0 (s.limit + 2)
  outputs : ∀ e ∈ s.ports.outHist, e.port ≠ 0
  warnings : ∀ w ∈ s.diag, w.op = 0x78 ∨ w.op = 0x79

end Sys2Proof.Machine
end

