-- ==== Sys2Proof/WellFormed.lean ====
section
/-! DEFINITION. Which terms of `Instr` are instructions: the constraints of `spec/30_encoding.md` R58 (and the
"constraint" entries of `spec/opcode_table.json`). -/

namespace Sys2Proof

/-- R58: LDN has no register 0 (0x00 is IDL); OUT and INP have no port 0 (0x60 is IRX, 0x68 is reserved). -/
def Instr.wellFormed : Instr → Bool
  | .idl => true
  | .ldn n => n != 0
  | .inc _ => true
  | .dec _ => true
  | .br _ => true
  | .bq _ => true
  | .bz _ => true
  | .bdf _ => true
  | .b1 _ => true
  | .b2 _ => true
  | .b3 _ => true
  | .b4 _ => true
  | .nbr _ => true
  | .bnq _ => true
  | .bnz _ => true
  | .bnf _ => true
  | .bn1 _ => true
  | .bn2 _ => true
  | .bn3 _ => true
  | .bn4 _ => true
  | .lda _ => true
  | .str _ => true
  | .irx => true
  | .out p => p != 0
  | .reserved68 => true
  | .inp p => p != 0
  | .ret => true
  | .dis => true
  | .ldxa => true
  | .stxd => true
  | .adc => true
  | .sdb => true
  | .shrc => true
  | .smb => true
  | .sav => true
  | .mark => true
  | .req => true
  | .seq => true
  | .adci _ => true
  | .sdbi _ => true
  | .shlc => true
  | .smbi _ => true
  | .glo _ => true
  | .ghi _ => true
  | .plo _ => true
  | .phi _ => true
  | .lbr _ => true
  | .lbq _ => true
  | .lbz _ => true
  | .lbdf _ => true
  | .nop => true
  | .lsnq => true
  | .lsnz => true
  | .lsnf => true
  | .nlbr _ => true
  | .lbnq _ => true
  | .lbnz _ => true
  | .lbnf _ => true
  | .lsie => true
  | .lsq => true
  | .lsz => true
  | .lsdf => true
  | .sep _ => true
  | .sex _ => true
  | .ldx => true
  | .or => true
  | .and => true
  | .xor => true
  | .add => true
  | .sd => true
  | .shr => true
  | .sm => true
  | .ldi _ => true
  | .ori _ => true
  | .ani _ => true
  | .xri _ => true
  | .adi _ => true
  | .sdi _ => true
  | .shl => true
  | .smi _ => true

end Sys2Proof
end

