-- ==== Sys2Proof/Certificates/Slice0/Obligations.lean ====
section
/-! DEFINITION. The statements for the provers. Each formalises what the numbered rules of `spec/` that it names say an
instruction or the machine does; OBLIGATIONS.json says the same in words. The frames are `OnlyTouches` of `Safety.lean`. -/

open Sys2Proof Sys2Proof.Machine

/-! ### Encoding -/

/-- Decode and encode agree, one way: every well-formed instruction, whatever follows it (R55, R57, R58). -/
def Obligations.DecodeOfEncode : Prop :=
  ∀ (i : Instr) (rest : List Byte), i.wellFormed = true → decode (encode i ++ rest) = .ok (i, rest)

/-- Decode and encode agree, the other way: what is decoded is well formed and its encoding is the bytes it was read from,
so no bit is dropped and no two words mean one instruction (R54, R57, R58). -/
def Obligations.EncodeOfDecode : Prop :=
  ∀ (bytes rest : List Byte) (i : Instr), decode bytes = .ok (i, rest) →
    i.wellFormed = true ∧ encode i ++ rest = bytes

/-- R54: decoding is total, and the opcode byte alone selects the instruction and fixes its length; the lengths are those of
the table of R56. -/
def Obligations.OpcodeFixesLength : Prop :=
  ∀ (op : Byte) (rest : List Byte),
    let length : Nat :=
      if 0x30 ≤ op.toNat ∧ op.toNat ≤ 0x3F ∨ op ∈ [0x7C, 0x7D, 0x7F, 0xF8, 0xF9, 0xFA, 0xFB, 0xFC, 0xFD, 0xFF] then 2
      else if op ∈ [0xC0, 0xC1, 0xC2, 0xC3, 0xC8, 0xC9, 0xCA, 0xCB] then 3
      else 1
    (rest.length + 1 < length → decode (op :: rest) = .error (.truncated op)) ∧
    (length ≤ rest.length + 1 → ∃ i, decode (op :: rest) = .ok (i, rest.drop (length - 1)) ∧
      opcode i = op ∧ (encode i).length = length)

/-- A few words of the map of R58, written out bit by bit, decode to the instructions they stand for. -/
def Obligations.KnownWordsDecode : Prop :=
  decode [0b00000000] = .ok (.idl, []) ∧ decode [0b00000111] = .ok (.ldn 7, []) ∧
  decode [0b00010011] = .ok (.inc 3, []) ∧ decode [0b00111010, 0b00001011] = .ok (.bnz 0x0B, []) ∧
  decode [0b01100100] = .ok (.out 4, []) ∧ decode [0b01101100] = .ok (.inp 4, []) ∧
  decode [0b01101000] = .ok (.reserved68, []) ∧ decode [0b01110110] = .ok (.shrc, []) ∧
  decode [0b11000000, 0b00010010, 0b00110100] = .ok (.lbr 0x1234, []) ∧ decode [0b11001110] = .ok (.lsz, []) ∧
  decode [0b11010011] = .ok (.sep 3, []) ∧ decode [0b11111000, 0b00000101] = .ok (.ldi 5, []) ∧
  decode [0b11110101] = .ok (.sd, [])

/-! ### The loop and the step -/

/-- R162, R163: a step runs the decoded instruction. Its bytes are the bytes of memory at `pc`, `pc + 1`, `pc + 2` as far as
it has them. The halt runs with `pc` still at its byte; every other instruction runs once `pc` has passed the opcode byte; `N`
holds the low nibble; the cost is added after it. Of the model in it: that the halt acts in the fetch phase as exec has it
(log 11) and writes `LAST_FETCH` (log 19), the parameter `haltLatchesN` (log 27), and that the operand bytes are read together
with the opcode byte (log 12). -/
def Obligations.StepRunsTheDecodedInstruction : Prop :=
  ∀ (s : State) (i : Instr) (rest : List Byte), s.fetches →
    decode [s.peek s.pc, s.peek (s.pc + 1), s.peek (s.pc + 2)] = .ok (i, rest) →
    encode i ++ rest = [s.peek s.pc, s.peek (s.pc + 1), s.peek (s.pc + 2)] ∧
    (i = .idl → step s = exec .idl { s with
      n := if s.params.haltLatchesN then 0x0 else s.n, trace := { s.trace with lastFetch := s.pc } }) ∧
    (i ≠ .idl →
      let fetched : State :=
        { s.setReg s.p (s.pc + 1) with
          n := (s.peek s.pc).extractLsb' 0 4, trace := { s.trace with lastFetch := s.pc } }
      step s = match exec i fetched with
        | .next t => .next { t with cyc := t.cyc + (if (s.peek s.pc).extractLsb' 4 4 = 0xC then 3 else 2) }
        | .fault e => .fault e
        | .refused e => .refused e)

/-- R29: `N` is the low nibble of the opcode byte most recently fetched, after every step that fetches; after a halt under the
parameter `haltLatchesN`, which is the model's (log 27). No other step in a run changes it. -/
def Obligations.FetchLatchesTheLowNibble : Prop :=
  ∀ s t : State, s.rs = .running → step s = .next t →
    (s.fetches → s.peek s.pc ≠ 0x00 ∨ s.params.haltLatchesN = true → t.n = (s.peek s.pc).extractLsb' 0 4) ∧
    (¬s.fetches ∨ s.peek s.pc = 0x00 ∧ s.params.haltLatchesN = false → t.n = s.n)

/-- R161, R170: before every fetch the yield flag is tested, then the budget; a run that is stopped executes nothing. That the
fetch has written `LAST_FETCH` is R42's and R162's; after a halt it is the model's inference (log 19). -/
def Obligations.StopTestsBeforeTheFetch : Prop :=
  ∀ s : State, s.rs = .running →
    (s.disp = true → step s = .next { s with rs := .yielded }) ∧
    (s.disp = false → s.limit ≤ (s.cyc : Int) → step s = .next { s with rs := .exhausted }) ∧
    (s.disp = false → (s.cyc : Int) < s.limit → ∀ t, step s = .next t → t.trace.lastFetch = s.pc ∧
      (t.rs = .running ∨ t.rs = .halted))

/-- R164: IDL, for every setting of `HALT_PC_ADVANCE` and `HALT_COST_COUNTED`. -/
def Obligations.HaltResult : Prop :=
  ∀ s : State,
    encode .idl = [0x00] ∧
    ∃ t, exec .idl s = .next t ∧ t.haddr = s.pc ∧ t.rs = .halted ∧ t.runResult = some (.halted s.pc) ∧
      (t.pc.toNat = (s.pc.toNat + (if s.params.haltPcAdvance then 1 else 0)) % 65536) ∧
      t.cyc = s.cyc + (if s.params.haltCostCounted then 2 else 0) ∧
      OnlyTouches { regs := [s.p], haddr := true, rs := true, cyc := true } s t

/-- R164: only the byte 0x00 fetched as an opcode halts, and it always does. -/
def Obligations.OnlyTheHaltByteHalts : Prop :=
  ∀ s t : State, s.fetches → step s = .next t → (t.rs = .halted ↔ s.peek s.pc = 0x00)

/-- R164: with the default parameters the halt is absorbing. A resumed run fetches the same 0x00 and halts again at once,
with the same `HADDR`, and `CYC` 0. The queue through which the host asks for the run is the model's (log 9). -/
def Obligations.HaltIsAbsorbing : Prop :=
  ∀ (s : State) (limit start : Int) (later : List HostOp),
    s.rs = .halted → s.pc = s.haddr → s.peek s.pc = 0x00 → s.disp = false →
    s.params.haltPcAdvance = false → s.params.haltCostCounted = false →
    s.env.pending = .run limit start :: later → start < 0 → 0 < limit →
    ∃ t : State, Host.Core.run Sys2Proof.core 2 s = .next t ∧
      t.rs = .halted ∧ t.haddr = s.haddr ∧ t.pc = s.pc ∧ t.cyc = 0

/-- R161: a run always stops, within `ceil((LIMIT - CYC) / 2)` instructions and one stop test, unless it meets the reserved
byte 0x68, which the model refuses (R60, log 16). -/
def Obligations.EveryRunStops : Prop :=
  ∀ s : State, s.rs = .running →
    ∃ k : Nat, k ≤ ((s.limit - (s.cyc : Int)).toNat + 1) / 2 + 1 ∧
      ((∃ t : State, Host.Core.run Sys2Proof.core k s = .next t ∧ t.rs ≠ .running) ∨
        Host.Core.run Sys2Proof.core k s = .refused Refusal.reservedOpcode)

/-- Every step keeps the invariant: the memory canonical and within `CAP`, the budget overshot by at most 2, every output
on a port from 1 to 7, every diagnostic SAV's or MARK's (R28, R36, R61, R161, R168). The canonical form is the
model's (log 2). -/
def Obligations.StepKeepsTheInvariant : Prop :=
  ∀ s t : State, s.Inv → step s = .next t → t.Inv

/-- The machine after reset meets the invariant. -/
def Obligations.ResetMeetsTheInvariant : Prop := State.reset.Inv

/-- R41, R60, R167: no step faults, and the one thing refused is the reserved byte 0x68 fetched as an opcode. -/
def Obligations.OnlyTheReservedByteStops : Prop :=
  ∀ s : State, (∀ e, step s ≠ .fault e) ∧
    (∀ e, step s = .refused e ↔ e = .reservedOpcode ∧ s.fetches ∧ s.peek s.pc = 0x68)

/-- R62, R163: the cost of an opcode byte is 3 from 0xC0 to 0xCF, else 2, and an instruction that has been executed adds it to
`CYC`, whatever it did. (The halt's cost is R164's, `HaltResult`.) -/
def Obligations.CycleCounterAddsTheCost : Prop :=
  (∀ op : Byte, cost op = if 0xC0 ≤ op.toNat ∧ op.toNat ≤ 0xCF then 3 else 2) ∧
  (∀ s t : State, s.fetches → step s = .next t → s.peek s.pc ≠ 0x00 →
    t.cyc = s.cyc + (if 0xC0 ≤ (s.peek s.pc).toNat ∧ (s.peek s.pc).toNat ≤ 0xCF then 3 else 2))

/-! ### What a step in a run may change -/

/-- R21, R40, R153: the inputs of the core are constant during a run: the external flags, the write switch, the attached
devices, the host's side, the budget, the parameters. So is `BUS`, which reset alone writes (R31, D31, log 17). That the host's
requests wait during a run is the model's choice (log 9). -/
def Obligations.RunLeavesTheInputs : Prop :=
  ∀ s t : State, s.rs = .running → step s = .next t →
    t.ef1 = s.ef1 ∧ t.ef2 = s.ef2 ∧ t.ef3 = s.ef3 ∧ t.ef4 = s.ef4 ∧ t.mwe = s.mwe ∧ t.bus = s.bus ∧
    t.ports.outDevs = s.ports.outDevs ∧
    t.ports.inDevs.map (·.map InDevice.name) = s.ports.inDevs.map (·.map InDevice.name) ∧
    t.limit = s.limit ∧ t.env = s.env ∧ t.params = s.params

/-- Nothing recorded is ever taken back, by an instruction or by the host. The diagnostics are R168's sticky record (log 18),
the output history R154's; the list of presentations is the model's own record (log 14), and that the records outlive every
operation of the host is the model's inference (log 18, log 22). -/
def Obligations.RecordsOnlyGrow : Prop :=
  ∀ s t : State, step s = .next t →
    s.diag <+: t.diag ∧ s.ports.outHist <+: t.ports.outHist ∧ s.ports.presented <+: t.ports.presented

/-- R17, R18, R19, R20, R23, R24, R30, R61: which opcode bytes can change each item of control state in a run. -/
def Obligations.ControlStateWriters : Prop :=
  ∀ s t : State, s.rs = .running → step s = .next t →
    (t.p ≠ s.p → (s.peek s.pc).extractLsb' 4 4 = 0xD ∨ s.peek s.pc ∈ [0x70, 0x71]) ∧
    (t.x ≠ s.x → (s.peek s.pc).extractLsb' 4 4 = 0xE ∨ s.peek s.pc ∈ [0x70, 0x71]) ∧
    (t.ie ≠ s.ie → s.peek s.pc ∈ [0x70, 0x71]) ∧
    (t.q ≠ s.q → s.peek s.pc ∈ [0x7A, 0x7B]) ∧
    (t.disp ≠ s.disp → s.peek s.pc = 0x64 ∧ t.disp = true) ∧
    (t.dbc ≠ s.dbc → s.peek s.pc = 0x3F ∧ s.ef4 = false ∧ t.dbc + 1 = s.dbc) ∧
    (t.diag ≠ s.diag → s.peek s.pc ∈ [0x78, 0x79]) ∧
    (t.df ≠ s.df → s.peek s.pc ∈ [0xF4, 0xFC, 0x74, 0x7C, 0xF5, 0xFD, 0x75, 0x7D, 0xF7, 0xFF, 0x77, 0x7F,
      0xF6, 0x76, 0xFE, 0x7E])

/-- R18, R20: an instruction that R18 does not list as a reader of `DF` does the same whatever `DF` is, and an instruction
other than LSIE the same whatever `IE` is. The flag itself it either writes, to a value that does not depend on the old one, or
leaves as it was. -/
def Obligations.CarryAndEnableReaders : Prop :=
  ∀ (i : Instr) (s t : State) (b : Bool), exec i s = .next t →
    (opcode i ∉ [0x74, 0x7C, 0x75, 0x7D, 0x77, 0x7F, 0x76, 0x7E, 0x33, 0x3B, 0xC3, 0xCB, 0xCF, 0xC7] →
      ∃ t', exec i { s with df := b } = .next t' ∧ { t' with df := t.df } = t ∧
        (t'.df = t.df ∨ (t'.df = b ∧ t.df = s.df))) ∧
    (opcode i ≠ 0xCC → ∃ t', exec i { s with ie := b } = .next t' ∧ { t' with ie := t.ie } = t ∧
      (t'.ie = t.ie ∨ (t'.ie = b ∧ t.ie = s.ie)))

/-- R32, R177: the trace addresses are a side channel. A step does the same whatever they hold. -/
def Obligations.TraceIsASideChannel : Prop :=
  ∀ (s t : State) (tr : Trace), step s = .next t →
    ∃ t', step { s with trace := tr } = .next t' ∧ { t' with trace := t.trace } = t

/-- R39, R45, R52: in a run a byte of memory changes only where STR, STXD or INP stores, in bounds and with `MWE = 1`. The
address is that of the register the instruction names, after the fetch phase. -/
def Obligations.MemoryWriters : Prop :=
  ∀ (s t : State) (a : Word), s.rs = .running → step s = .next t → t.peek a ≠ s.peek a →
    s.mwe = true ∧ a.toNat < s.params.cap.val ∧
    (((s.peek s.pc).extractLsb' 4 4 = 0x5 ∧ a = (s.setReg s.p (s.pc + 1)).reg ((s.peek s.pc).extractLsb' 0 4)) ∨
      (s.peek s.pc ∈ [0x73, 0x69, 0x6A, 0x6B, 0x6C, 0x6D, 0x6E, 0x6F] ∧ a = (s.setReg s.p (s.pc + 1)).reg s.x))

/-! ### Memory -/

/-- R38, R39: a read in bounds gives the cell, out of bounds 0xFF; a store writes `v` at `a` in bounds with `MWE = 1`, else no
byte; and the instruction whose store is discarded has its other effects (STXD still decrements `R[X]`, INP still loads
`D`). -/
def Obligations.StoreOrDiscard : Prop :=
  ∀ (s : State) (p : Port),
    (∀ a : Word, s.peek a = if a.toNat < s.params.cap.val then Memory.read s.mem a.toNat else 0xFF) ∧
    (∀ (a b : Word) (v : Byte), (s.memWrite a v).peek b =
      if b = a ∧ a.toNat < s.params.cap.val ∧ s.mwe = true then v else s.peek b) ∧
    (¬(s.rx.toNat < s.params.cap.val ∧ s.mwe = true) →
      (∃ t, exec .stxd s = .next t ∧ t.mem = s.mem ∧ t.reg s.x = s.reg s.x - 1) ∧
      (∃ t, exec (.inp p) s = .next t ∧ t.mem = s.mem ∧ t.d = s.portInByte p))

/-- R50: the host's accesses while no run is in progress. A write is not subject to `MWE`; neither touches the trace. The
queue and the list of replies are the model's (log 9, log 20). -/
def Obligations.HostMemoryPort : Prop :=
  ∀ (s : State) (a v : Nat) (later : List HostOp), s.rs ≠ .running →
    (s.env.pending = .readMemory a :: later →
      step s = .next { s with env := { s.env with
        pending := later, replies := s.env.replies ++ [(BitVec.ofNat 16 a, s.peek (BitVec.ofNat 16 a))] } }) ∧
    (s.env.pending = .writeMemory a v :: later →
      ∃ t, step s = .next t ∧
        (∀ b : Word, t.peek b =
          if b = BitVec.ofNat 16 a ∧ b.toNat < s.params.cap.val then BitVec.ofNat 8 v else s.peek b) ∧
        { t with mem := s.mem } = { s with env := { s.env with pending := later } })

/-! ### Register transfer -/

/-- R66, R67, R68: INC, DEC and IRX wrap modulo 65536 and write no flag; IRX accesses no port. -/
def Obligations.IncDecResult : Prop :=
  ∀ (n : Nibble) (s : State),
    (encode (.inc n) = [0x10 + n.setWidth 8] ∧ cost (opcode (.inc n)) = 2 ∧
      ∃ t, exec (.inc n) s = .next t ∧ (t.reg n).toNat = ((s.reg n).toNat + 1) % 65536 ∧
        OnlyTouches { regs := [n] } s t) ∧
    (encode (.dec n) = [0x20 + n.setWidth 8] ∧ cost (opcode (.dec n)) = 2 ∧
      ∃ t, exec (.dec n) s = .next t ∧ ((t.reg n).toNat : Int) = ((s.reg n).toNat - 1 : Int) % 65536 ∧
        OnlyTouches { regs := [n] } s t) ∧
    (encode .irx = [0x60] ∧ cost 0x60 = 2 ∧
      ∃ t, exec .irx s = .next t ∧ (t.reg s.x).toNat = ((s.reg s.x).toNat + 1) % 65536 ∧
        OnlyTouches { regs := [s.x] } s t)

/-- R69, R70: GLO and GHI copy a half of `R[n]` into `D`. -/
def Obligations.GetHalfResult : Prop :=
  ∀ (n : Nibble) (s : State),
    (encode (.glo n) = [0x80 + n.setWidth 8] ∧ cost (opcode (.glo n)) = 2 ∧
      ∃ t, exec (.glo n) s = .next t ∧ t.d.toNat = (s.reg n).toNat % 256 ∧ OnlyTouches { d := true } s t) ∧
    (encode (.ghi n) = [0x90 + n.setWidth 8] ∧ cost (opcode (.ghi n)) = 2 ∧
      ∃ t, exec (.ghi n) s = .next t ∧ t.d.toNat = (s.reg n).toNat / 256 ∧ OnlyTouches { d := true } s t)

/-- R71, R72: PLO and PHI replace a half of `R[n]` by `D` and leave the other half. -/
def Obligations.PutHalfResult : Prop :=
  ∀ (n : Nibble) (s : State),
    (encode (.plo n) = [0xA0 + n.setWidth 8] ∧ cost (opcode (.plo n)) = 2 ∧
      ∃ t, exec (.plo n) s = .next t ∧ (t.reg n).toNat = (s.reg n).toNat / 256 * 256 + s.d.toNat ∧
        OnlyTouches { regs := [n] } s t) ∧
    (encode (.phi n) = [0xB0 + n.setWidth 8] ∧ cost (opcode (.phi n)) = 2 ∧
      ∃ t, exec (.phi n) s = .next t ∧ (t.reg n).toNat = s.d.toNat * 256 + (s.reg n).toNat % 256 ∧
        OnlyTouches { regs := [n] } s t)

/-- R73: the law of the four. `LDI v.lo; PLO n; LDI v.hi; PHI n` puts `v` into `R[n]`, and GLO and GHI give its halves back,
for `n` not `P`. -/
def Obligations.HalvesRoundTrip : Prop :=
  ∀ (n : Nibble) (v : Word) (s : State), n ≠ s.p →
    ∃ t1 t2 t3 t4 t5 t6, exec (.ldi (v.setWidth 8)) s = .next t1 ∧ exec (.plo n) t1 = .next t2 ∧
      exec (.ldi ((v >>> 8).setWidth 8)) t2 = .next t3 ∧ exec (.phi n) t3 = .next t4 ∧ t4.reg n = v ∧
      exec (.glo n) t4 = .next t5 ∧ t5.d.toNat = v.toNat % 256 ∧
      exec (.ghi n) t4 = .next t6 ∧ t6.d.toNat = v.toNat / 256

/-! ### Loads and stores -/

/-- R75, R76, R77, R78: LDN and LDX load `D` from the address in `R[n]` or `R[X]`; LDA and LDXA then increment that register. -/
def Obligations.LoadResult : Prop :=
  ∀ (n : Nibble) (s : State), ∀ e ∈ [(Instr.ldn n, n.setWidth 8, n), (.ldx, 0xF0, s.x)],
    ∀ f ∈ [(Instr.lda n, (0x40 + n.setWidth 8 : Byte), n), (.ldxa, 0x72, s.x)],
    (e.1.wellFormed = true → encode e.1 = [e.2.1] ∧ cost e.2.1 = 2 ∧
      ∃ t, exec e.1 s = .next t ∧ t.d = s.peek (s.reg e.2.2) ∧ t.trace = { s.trace with lastRd := s.reg e.2.2 } ∧
        OnlyTouches { d := true, trace := true } s t) ∧
    (encode f.1 = [f.2.1] ∧ cost f.2.1 = 2 ∧
      ∃ t, exec f.1 s = .next t ∧ t.d = s.peek (s.reg f.2.2) ∧
        (t.reg f.2.2).toNat = ((s.reg f.2.2).toNat + 1) % 65536 ∧
        t.trace = { s.trace with lastRd := s.reg f.2.2 } ∧
        OnlyTouches { regs := [f.2.2], d := true, trace := true } s t)

/-- R79: LDI, of the step: the byte after the opcode byte 0xF8, as memory holds it at execution time, is loaded into `D`, and
`pc` passes both. -/
def Obligations.LoadImmediateFromMemory : Prop :=
  (∀ (k : Byte) (s : State), encode (.ldi k) = [0xF8, k] ∧ cost 0xF8 = 2 ∧
    ∃ t, exec (.ldi k) s = .next t ∧ t.d = k ∧ t.pc.toNat = (s.pc.toNat + 1) % 65536 ∧
      t.trace = { s.trace with lastRd := s.pc } ∧ OnlyTouches { regs := [s.p], d := true, trace := true } s t) ∧
  (∀ s : State, s.fetches → s.peek s.pc = 0xF8 →
    ∃ t, step s = .next t ∧ t.d = s.peek (s.pc + 1) ∧ t.pc.toNat = (s.pc.toNat + 2) % 65536 ∧ t.cyc = s.cyc + 2)

/-- R80: STR stores `D` at the address in `R[n]`; with `MWE = 0` or out of bounds nothing is written. -/
def Obligations.StoreThroughRegister : Prop :=
  ∀ (n : Nibble) (s : State), encode (.str n) = [0x50 + n.setWidth 8] ∧ cost (opcode (.str n)) = 2 ∧
    ∃ t, exec (.str n) s = .next t ∧
      (s.mwe = true → (s.reg n).toNat < s.params.cap.val → t.peek (s.reg n) = s.d) ∧
      (s.mwe = false ∨ s.params.cap.val ≤ (s.reg n).toNat → t.mem = s.mem) ∧
      t.trace = { s.trace with lastWr := s.reg n } ∧
      OnlyTouches { mem := some (s.reg n), trace := true } s t

/-- R81: STXD stores `D` at the address in `R[X]` and then decrements `R[X]`, also when the write is discarded. -/
def Obligations.StoreAndDecrement : Prop :=
  ∀ s : State, encode .stxd = [0x73] ∧ cost 0x73 = 2 ∧
    ∃ t, exec .stxd s = .next t ∧
      (s.mwe = true → (s.reg s.x).toNat < s.params.cap.val → t.peek (s.reg s.x) = s.d) ∧
      (s.mwe = false ∨ s.params.cap.val ≤ (s.reg s.x).toNat → t.mem = s.mem) ∧
      ((t.reg s.x).toNat : Int) = ((s.reg s.x).toNat - 1 : Int) % 65536 ∧
      t.trace = { s.trace with lastWr := s.reg s.x } ∧
      OnlyTouches { regs := [s.x], mem := some (s.reg s.x), trace := true } s t

/-! ### Logic and shifts -/

/-- R83 to R88: OR, AND, XOR of `M[R[X]]` and `D`, ORI, ANI, XRI of the operand byte and `D`, bit by bit; `DF` unchanged; the
immediate forms move `pc` past the operand byte. -/
def Obligations.LogicResult : Prop :=
  ∀ (k : Byte) (s : State),
    (∀ e ∈ [(Instr.or, (0xF1 : Byte), or), (.and, 0xF2, and), (.xor, 0xF3, Bool.xor)],
      encode e.1 = [e.2.1] ∧ cost e.2.1 = 2 ∧
      ∃ t, exec e.1 s = .next t ∧
        (∀ j : Nat, j < 8 → t.d.getLsbD j = e.2.2 ((s.peek (s.reg s.x)).getLsbD j) (s.d.getLsbD j)) ∧
        t.trace = { s.trace with lastRd := s.reg s.x } ∧ OnlyTouches { d := true, trace := true } s t) ∧
    (∀ e ∈ [(Instr.ori k, (0xF9 : Byte), or), (.ani k, 0xFA, and), (.xri k, 0xFB, Bool.xor)],
      encode e.1 = [e.2.1, k] ∧ cost e.2.1 = 2 ∧
      ∃ t, exec e.1 s = .next t ∧ (∀ j : Nat, j < 8 → t.d.getLsbD j = e.2.2 (k.getLsbD j) (s.d.getLsbD j)) ∧
        t.pc.toNat = (s.pc.toNat + 1) % 65536 ∧ t.trace = { s.trace with lastRd := s.pc } ∧
        OnlyTouches { regs := [s.p], d := true, trace := true } s t)

/-- R90, R91, R92, R93: the shifts, with `DF` the bit shifted out and, in the rotates, shifted in. -/
def Obligations.ShiftResult : Prop :=
  ∀ s : State,
    (encode .shr = [0xF6] ∧ cost 0xF6 = 2 ∧ ∃ t, exec .shr s = .next t ∧ t.d.toNat = s.d.toNat / 2 ∧
      t.df = decide (s.d.toNat % 2 = 1) ∧ OnlyTouches { d := true, df := true } s t) ∧
    (encode .shrc = [0x76] ∧ cost 0x76 = 2 ∧ ∃ t, exec .shrc s = .next t ∧
      t.d.toNat = s.df.toNat * 128 + s.d.toNat / 2 ∧
      t.df = decide (s.d.toNat % 2 = 1) ∧ OnlyTouches { d := true, df := true } s t) ∧
    (encode .shl = [0xFE] ∧ cost 0xFE = 2 ∧ ∃ t, exec .shl s = .next t ∧ t.d.toNat = s.d.toNat * 2 % 256 ∧
      t.df = decide (128 ≤ s.d.toNat) ∧ OnlyTouches { d := true, df := true } s t) ∧
    (encode .shlc = [0x7E] ∧ cost 0x7E = 2 ∧ ∃ t, exec .shlc s = .next t ∧
      t.d.toNat = s.d.toNat * 2 % 256 + s.df.toNat ∧
      t.df = decide (128 ≤ s.d.toNat) ∧ OnlyTouches { d := true, df := true } s t)

/-- The law of R94: SHL then SHR restores the low 7 bits and leaves `DF` 0; and the spec's own inference there: SHLC then SHRC
restores `D` and `DF`. -/
def Obligations.ShiftPairs : Prop :=
  ∀ s : State,
    (∃ t u, exec .shl s = .next t ∧ exec .shr t = .next u ∧ t.df = decide (128 ≤ s.d.toNat) ∧
      u.d.toNat = s.d.toNat % 128 ∧ u.df = false) ∧
    (∃ t u, exec .shlc s = .next t ∧ exec .shrc t = .next u ∧ t.df = decide (128 ≤ s.d.toNat) ∧
      u.d = s.d ∧ u.df = s.df)

/-! ### Arithmetic -/

/-- R97, R98, R99, R100: ADD, ADI, ADC, ADCI. `m` is `M[R[X]]` or the operand byte, read before `D` and `DF` are written. -/
def Obligations.AddResult : Prop :=
  ∀ (k : Byte) (s : State),
    (∀ e ∈ [(Instr.add, (0xF4 : Byte), 0), (.adc, 0x74, s.df.toNat)],
      encode e.1 = [e.2.1] ∧ cost e.2.1 = 2 ∧
      let t := (s.peek (s.reg s.x)).toNat + s.d.toNat + e.2.2
      ∃ u, exec e.1 s = .next u ∧ u.d.toNat = t % 256 ∧ u.df = decide (t > 255) ∧
        u.trace = { s.trace with lastRd := s.reg s.x } ∧ OnlyTouches { d := true, df := true, trace := true } s u) ∧
    (∀ e ∈ [(Instr.adi k, (0xFC : Byte), 0), (.adci k, 0x7C, s.df.toNat)],
      encode e.1 = [e.2.1, k] ∧ cost e.2.1 = 2 ∧
      let t := k.toNat + s.d.toNat + e.2.2
      ∃ u, exec e.1 s = .next u ∧ u.d.toNat = t % 256 ∧ u.df = decide (t > 255) ∧
        u.pc.toNat = (s.pc.toNat + 1) % 65536 ∧ u.trace = { s.trace with lastRd := s.pc } ∧
        OnlyTouches { regs := [s.p], d := true, df := true, trace := true } s u)

/-- R101, R102, R103, R104: SD, SDI, SDB, SDBI. `D` is memory (or the operand byte) minus `D` minus the borrow in, modulo
256; `DF` is 1 exactly when there is no borrow. The borrow in is 0, or `1 - DF` in SDB and SDBI. -/
def Obligations.SubtractFromMemory : Prop :=
  ∀ (k : Byte) (s : State),
    (∀ e ∈ [(Instr.sd, (0xF5 : Byte), 0), (.sdb, 0x75, 1 - s.df.toNat)],
      encode e.1 = [e.2.1] ∧ cost e.2.1 = 2 ∧
      let t := (s.peek (s.reg s.x)).toNat + (0xFF - s.d.toNat) + 1 - e.2.2
      ∃ u, exec e.1 s = .next u ∧ u.d.toNat = t % 256 ∧ u.df = decide (t > 255) ∧
        ((u.d.toNat : Int) = ((s.peek (s.reg s.x)).toNat - s.d.toNat - e.2.2 : Int) % 256) ∧
        (u.df = true ↔ s.d.toNat + e.2.2 ≤ (s.peek (s.reg s.x)).toNat) ∧
        u.trace = { s.trace with lastRd := s.reg s.x } ∧ OnlyTouches { d := true, df := true, trace := true } s u) ∧
    (∀ e ∈ [(Instr.sdi k, (0xFD : Byte), 0), (.sdbi k, 0x7D, 1 - s.df.toNat)],
      encode e.1 = [e.2.1, k] ∧ cost e.2.1 = 2 ∧
      let t := k.toNat + (0xFF - s.d.toNat) + 1 - e.2.2
      ∃ u, exec e.1 s = .next u ∧ u.d.toNat = t % 256 ∧ u.df = decide (t > 255) ∧
        ((u.d.toNat : Int) = (k.toNat - s.d.toNat - e.2.2 : Int) % 256) ∧
        (u.df = true ↔ s.d.toNat + e.2.2 ≤ k.toNat) ∧
        u.pc.toNat = (s.pc.toNat + 1) % 65536 ∧ u.trace = { s.trace with lastRd := s.pc } ∧
        OnlyTouches { regs := [s.p], d := true, df := true, trace := true } s u)

/-- R105, R106, R107, R108: SM, SMI, SMB, SMBI. `D` is `D` minus memory (or the operand byte) minus the borrow in. Last, the
law of R105: SM and then ADD of the same byte gives `D` back, and `DF` after the SM is 1 exactly when there is no borrow. -/
def Obligations.SubtractMemory : Prop :=
  ∀ (k : Byte) (s : State),
    (∀ e ∈ [(Instr.sm, (0xF7 : Byte), 0), (.smb, 0x77, 1 - s.df.toNat)],
      encode e.1 = [e.2.1] ∧ cost e.2.1 = 2 ∧
      let t := s.d.toNat + (0xFF - (s.peek (s.reg s.x)).toNat) + 1 - e.2.2
      ∃ u, exec e.1 s = .next u ∧ u.d.toNat = t % 256 ∧ u.df = decide (t > 255) ∧
        ((u.d.toNat : Int) = (s.d.toNat - (s.peek (s.reg s.x)).toNat - e.2.2 : Int) % 256) ∧
        (u.df = true ↔ (s.peek (s.reg s.x)).toNat + e.2.2 ≤ s.d.toNat) ∧
        u.trace = { s.trace with lastRd := s.reg s.x } ∧ OnlyTouches { d := true, df := true, trace := true } s u) ∧
    (∀ e ∈ [(Instr.smi k, (0xFF : Byte), 0), (.smbi k, 0x7F, 1 - s.df.toNat)],
      encode e.1 = [e.2.1, k] ∧ cost e.2.1 = 2 ∧
      let t := s.d.toNat + (0xFF - k.toNat) + 1 - e.2.2
      ∃ u, exec e.1 s = .next u ∧ u.d.toNat = t % 256 ∧ u.df = decide (t > 255) ∧
        ((u.d.toNat : Int) = (s.d.toNat - k.toNat - e.2.2 : Int) % 256) ∧
        (u.df = true ↔ k.toNat + e.2.2 ≤ s.d.toNat) ∧
        u.pc.toNat = (s.pc.toNat + 1) % 65536 ∧ u.trace = { s.trace with lastRd := s.pc } ∧
        OnlyTouches { regs := [s.p], d := true, df := true, trace := true } s u) ∧
    (∃ t u, exec .sm s = .next t ∧ exec .add t = .next u ∧ u.d = s.d ∧
      (t.df = true ↔ (s.peek (s.reg s.x)).toNat ≤ s.d.toNat))

/-- R109, an inference that the spec marks as its own: the plain form on the low bytes and the with-carry form on the high
bytes is 16-bit arithmetic, for the memory forms, then the immediate forms, of all six pairs. `s` is the state before the plain
form and `u` any state before the with-carry form whose `DF` is the one that the plain form left. With `D = a.lo` and then
`D = a.hi`, and `b.lo` and then `b.hi` the other operand, the two results are the bytes of `a + b`, `a - b` or `b - a`, and `DF`
is the carry, or no borrow, of the 16-bit operation. Last, with LDI in between, from one state. -/
def Obligations.MultiByteArithmetic : Prop :=
  ∀ (a b : Word) (s : State), s.d = a.setWidth 8 →
    let bLo : Byte := b.setWidth 8
    let bHi : Byte := (b >>> 8).setWidth 8
    let carry : Bool := decide (a.toNat + b.toNat > 65535)
    (∀ e ∈ [(Instr.add, Instr.adc, a + b, carry), (.sm, .smb, a - b, decide (b.toNat ≤ a.toNat)),
        (.sd, .sdb, b - a, decide (a.toNat ≤ b.toNat))],
      s.peek (s.reg s.x) = bLo → ∃ t, exec e.1 s = .next t ∧
        ∀ u : State, u.df = t.df → u.d = (a >>> 8).setWidth 8 → u.peek (u.reg u.x) = bHi →
          ∃ v, exec e.2.1 u = .next v ∧ v.d ++ t.d = e.2.2.1 ∧ v.df = e.2.2.2) ∧
    (∀ e ∈ [(Instr.adi bLo, Instr.adci bHi, a + b, carry), (.smi bLo, .smbi bHi, a - b, decide (b.toNat ≤ a.toNat)),
        (.sdi bLo, .sdbi bHi, b - a, decide (a.toNat ≤ b.toNat))],
      ∃ t, exec e.1 s = .next t ∧
        ∀ u : State, u.df = t.df → u.d = (a >>> 8).setWidth 8 →
          ∃ v, exec e.2.1 u = .next v ∧ v.d ++ t.d = e.2.2.1 ∧ v.df = e.2.2.2) ∧
    (∃ t u v, exec (.adi bLo) s = .next t ∧ exec (.ldi ((a >>> 8).setWidth 8)) t = .next u ∧ exec (.adci bHi) u = .next v ∧
      v.d.toNat * 256 + t.d.toNat = (a.toNat + b.toNat) % 65536 ∧ v.df = carry) ∧
    (∃ t u v, exec (.smi bLo) s = .next t ∧ exec (.ldi ((a >>> 8).setWidth 8)) t = .next u ∧ exec (.smbi bHi) u = .next v ∧
      ((v.d.toNat * 256 + t.d.toNat : Nat) : Int) = (a.toNat - b.toNat : Int) % 65536 ∧ v.df = decide (b.toNat ≤ a.toNat))

/-! ### Branches and skips -/

/-- R112 to R119 with R110: BR, BQ, BZ, BDF, B1 to B4. Taken, the low byte of `pc` is the operand byte and the high byte that
of the operand byte's address; not taken, `pc` passes the operand byte. That `LAST_RD` is unchanged when not taken is the
model's inference from "this spec has it not read" in R110 (log 13). -/
def Obligations.ShortBranchOnSet : Prop :=
  ∀ (a : Byte) (s : State), ∀ e ∈
    [(Instr.br a, (0x30 : Byte), true), (.bq a, 0x31, s.q), (.bz a, 0x32, decide (s.d.toNat = 0)), (.bdf a, 0x33, s.df),
      (.b1 a, 0x34, s.ef1), (.b2 a, 0x35, s.ef2), (.b3 a, 0x36, s.ef3), (.b4 a, 0x37, s.ef4)],
    encode e.1 = [e.2.1, a] ∧ cost e.2.1 = 2 ∧
    ∃ t, exec e.1 s = .next t ∧ OnlyTouches { regs := [s.p], trace := true } s t ∧
      (e.2.2 = true → t.pc.toNat = s.pc.toNat / 256 * 256 + a.toNat ∧ t.trace = { s.trace with lastRd := s.pc }) ∧
      (e.2.2 = false → t.pc.toNat = (s.pc.toNat + 1) % 65536 ∧ t.trace = s.trace)

/-- R120 to R126 with R110: NBR, BNQ, BNZ, BNF, BN1 to BN3. That `LAST_RD` is unchanged when not taken (by NBR always) is the
model's inference from "this spec has it not read" in R110 (log 13). -/
def Obligations.ShortBranchOnClear : Prop :=
  ∀ (a : Byte) (s : State), ∀ e ∈
    [(Instr.nbr a, (0x38 : Byte), false), (.bnq a, 0x39, !s.q), (.bnz a, 0x3A, decide (s.d.toNat ≠ 0)),
      (.bnf a, 0x3B, !s.df), (.bn1 a, 0x3C, !s.ef1), (.bn2 a, 0x3D, !s.ef2), (.bn3 a, 0x3E, !s.ef3)],
    encode e.1 = [e.2.1, a] ∧ cost e.2.1 = 2 ∧
    ∃ t, exec e.1 s = .next t ∧ OnlyTouches { regs := [s.p], trace := true } s t ∧
      (e.2.2 = true → t.pc.toNat = s.pc.toNat / 256 * 256 + a.toNat ∧ t.trace = { s.trace with lastRd := s.pc }) ∧
      (e.2.2 = false → t.pc.toNat = (s.pc.toNat + 1) % 65536 ∧ t.trace = s.trace)

/-- R127: BN4 branches and decrements `DBC` when `EF[4] = 0` and `DBC != 0`; else it falls through and `DBC` is unchanged.
That `LAST_RD` is unchanged when it falls through is the model's inference from "this spec has it not read" in R110
(log 13). -/
def Obligations.DebouncedBranch : Prop :=
  ∀ (a : Byte) (s : State), encode (.bn4 a) = [0x3F, a] ∧ cost 0x3F = 2 ∧
    ∃ t, exec (.bn4 a) s = .next t ∧ OnlyTouches { regs := [s.p], dbc := true, trace := true } s t ∧
      (s.ef4 = false ∧ s.dbc ≠ 0 → t.dbc + 1 = s.dbc ∧ t.pc.toNat = s.pc.toNat / 256 * 256 + a.toNat ∧
        t.trace = { s.trace with lastRd := s.pc }) ∧
      (¬(s.ef4 = false ∧ s.dbc ≠ 0) → t.dbc = s.dbc ∧ t.pc.toNat = (s.pc.toNat + 1) % 65536 ∧ t.trace = s.trace)

/-- R130 to R137 with R128: LBR, LBQ, LBZ, LBDF, NLBR, LBNQ, LBNZ, LBNF. Taken, `pc` is the target, whose high byte stands
first in memory; not taken, `pc` passes both operand bytes. That `LAST_RD` is the second operand byte's address when taken and
unchanged when not taken is the model's inference from R128 and R42 (log 13). -/
def Obligations.LongBranchResult : Prop :=
  ∀ (hi lo : Byte) (s : State), ∀ e ∈
    [(Instr.lbr, (0xC0 : Byte), true), (.lbq, 0xC1, s.q), (.lbz, 0xC2, decide (s.d.toNat = 0)), (.lbdf, 0xC3, s.df),
      (.nlbr, 0xC8, false), (.lbnq, 0xC9, !s.q), (.lbnz, 0xCA, decide (s.d.toNat ≠ 0)), (.lbnf, 0xCB, !s.df)],
    encode (e.1 (hi ++ lo)) = [e.2.1, hi, lo] ∧ cost e.2.1 = 3 ∧
    ∃ t, exec (e.1 (hi ++ lo)) s = .next t ∧ OnlyTouches { regs := [s.p], trace := true } s t ∧
      (e.2.2 = true → t.pc.toNat = hi.toNat * 256 + lo.toNat ∧ t.trace = { s.trace with lastRd := s.pc + 1 }) ∧
      (e.2.2 = false → t.pc.toNat = (s.pc.toNat + 2) % 65536 ∧ t.trace = s.trace)

/-- R139 to R145 and R152 with R138: the long skips and NOP. No memory is read. -/
def Obligations.LongSkipResult : Prop :=
  ∀ s : State, ∀ e ∈
    [(Instr.nop, (0xC4 : Byte), false), (.lsnq, 0xC5, !s.q), (.lsnz, 0xC6, decide (s.d.toNat ≠ 0)), (.lsnf, 0xC7, !s.df),
      (.lsie, 0xCC, s.ie), (.lsq, 0xCD, s.q), (.lsz, 0xCE, decide (s.d.toNat = 0)), (.lsdf, 0xCF, s.df)],
    encode e.1 = [e.2.1] ∧ cost e.2.1 = 3 ∧
    ∃ t, exec e.1 s = .next t ∧ OnlyTouches { regs := [s.p] } s t ∧
      t.pc.toNat = (s.pc.toNat + (if e.2.2 then 2 else 0)) % 65536

/-! ### Control transfer and mode -/

/-- R146, R147, R150, R151: SEP and SEX write the select index and no register; SEQ sets `Q`, REQ clears it. -/
def Obligations.SelectAndOutputFlagResult : Prop :=
  ∀ (n : Nibble) (s : State),
    (encode (.sep n) = [0xD0 + n.setWidth 8] ∧ cost (opcode (.sep n)) = 2 ∧
      ∃ t, exec (.sep n) s = .next t ∧ t.p = n ∧ t.pc = s.reg n ∧ OnlyTouches { p := true } s t) ∧
    (encode (.sex n) = [0xE0 + n.setWidth 8] ∧ cost (opcode (.sex n)) = 2 ∧
      ∃ t, exec (.sex n) s = .next t ∧ t.x = n ∧ t.rx = s.reg n ∧ OnlyTouches { x := true } s t) ∧
    (encode .seq = [0x7B] ∧ cost 0x7B = 2 ∧ ∃ t, exec .seq s = .next t ∧ t.q = true ∧ OnlyTouches { q := true } s t) ∧
    (encode .req = [0x7A] ∧ cost 0x7A = 2 ∧ ∃ t, exec .req s = .next t ∧ t.q = false ∧ OnlyTouches { q := true } s t)

/-- R148, R149: RET and DIS, for either setting of `RET_INC_NEW_X`. The byte at `R[X]` gives the new `X` (high half) and the
new `P` (low half); one register is incremented; `IE` becomes 1, or 0. -/
def Obligations.ReturnResult : Prop :=
  ∀ s : State, ∀ e ∈ [(Instr.ret, (0x70 : Byte), true), (.dis, 0x71, false)],
    encode e.1 = [e.2.1] ∧ cost e.2.1 = 2 ∧
    let b := s.peek (s.reg s.x)
    let bumped : Nibble := if s.params.retIncNewX then b.extractLsb' 4 4 else s.x
    ∃ t, exec e.1 s = .next t ∧ t.x.toNat = b.toNat / 16 ∧ t.p.toNat = b.toNat % 16 ∧
      (t.reg bumped).toNat = ((s.reg bumped).toNat + 1) % 65536 ∧ t.ie = e.2.2 ∧
      t.trace = { s.trace with lastRd := s.reg s.x } ∧
      OnlyTouches { regs := [bumped], x := true, p := true, ie := true, trace := true } s t

/-! ### Input, output, unsupported and reserved -/

/-- R156 with R154: OUT presents the byte at `R[X]` to every device of the port once, in the order of attachment, increments
`R[X]`, and for port 4 raises `DISP`. The list of presentations, and the event in the history when no device is attached, are
the model's choice (log 14). Port 0 is no instruction (R58): for it this speaks of a term that the decoder never gives. -/
def Obligations.OutputResult : Prop :=
  ∀ (p : Port) (s : State), encode (.out p) = [0x60 + p.setWidth 8] ∧ cost (opcode (.out p)) = 2 ∧
    ∃ t, exec (.out p) s = .next t ∧
      t.ports = { s.ports with
        outHist := s.ports.outHist ++ [{ port := p, byte := s.peek (s.reg s.x) }]
        presented := s.ports.presented ++ (s.ports.outDevs[p.toNat]'(p.isLt)).map
          (fun dev => { port := p, device := dev, byte := s.peek (s.reg s.x) }) } ∧
      (t.reg s.x).toNat = ((s.reg s.x).toNat + 1) % 65536 ∧
      t.disp = (s.disp || decide (p = 4)) ∧ t.trace = { s.trace with lastRd := s.reg s.x } ∧
      OnlyTouches { regs := [s.x], ports := true, disp := true, trace := true } s t

/-- R155: the byte of `PortIn(p)` is that of the last device with a value, reduced modulo 256, or `INP_DEFAULT(p)` if none has
one; every device of the port is asked exactly once, and no other. Scripts, request counts and free answers are the model's
(log 8). -/
def Obligations.LastAnswerWins : Prop :=
  ∀ (s : State) (p q : Port),
    s.portInByte p =
      (match ((s.ports.inDevs[p.toNat]'(p.isLt)).filterMap InDevice.answer).getLast? with
        | some r => BitVec.ofNat 8 r
        | none => s.params.inpDefault[p.toNat]'(p.isLt)) ∧
    (s.portInAsked p).ports.inDevs[q.toNat]'(q.isLt) =
      (if q = p then (s.ports.inDevs[q.toNat]'(q.isLt)).map
          (fun dev => { dev with script := dev.script.drop 1, asked := dev.asked + 1 })
        else s.ports.inDevs[q.toNat]'(q.isLt))

/-- R157: INP stores the byte of `PortIn(p)` at `R[X]` and loads it into `D`; `R[X]` is unchanged. What asking does to the
devices, a script entry used up and a request counted, is the model's choice (log 8). Port 0 is no instruction (R58): for it
this speaks of a term that the decoder never gives. -/
def Obligations.InputResult : Prop :=
  ∀ (p : Port) (s : State), encode (.inp p) = [0x68 + p.setWidth 8] ∧ cost (opcode (.inp p)) = 2 ∧
    ∃ t, exec (.inp p) s = .next t ∧ t.d = s.portInByte p ∧
      (s.mwe = true → (s.reg s.x).toNat < s.params.cap.val → t.peek (s.reg s.x) = s.portInByte p) ∧
      (s.mwe = false ∨ s.params.cap.val ≤ (s.reg s.x).toNat → t.mem = s.mem) ∧
      t.ports = (s.portInAsked p).ports ∧ t.trace = { s.trace with lastWr := s.reg s.x } ∧
      OnlyTouches { d := true, mem := some (s.reg s.x), ports := true, trace := true } s t

/-- R158, R159: SAV and MARK emit a diagnostic with the opcode byte and the address it was fetched from, and change nothing
else. -/
def Obligations.UnsupportedResult : Prop :=
  ∀ s : State, ∀ e ∈ [(Instr.sav, (0x78 : Byte)), (.mark, 0x79)],
    encode e.1 = [e.2] ∧ cost e.2 = 2 ∧
    (∃ t, exec e.1 s = .next t ∧ t.diag = s.diag ++ [{ op := e.2, addr := s.pc - 1 }] ∧
      OnlyTouches { diag := true } s t) ∧
    (s.fetches → s.peek s.pc = e.2 → ∃ t, step s = .next t ∧ t.diag = s.diag ++ [{ op := e.2, addr := s.pc }] ∧
      t.pc = s.pc + 1 ∧ t.n = e.2.extractLsb' 0 4 ∧ t.cyc = s.cyc + 2)

/-- R60: the reserved byte 0x68 has no meaning and is refused, one byte long. -/
def Obligations.ReservedByteRefused : Prop :=
  encode .reserved68 = [0x68] ∧ cost 0x68 = 2 ∧ (∀ rest, decode (0x68 :: rest) = .ok (.reserved68, rest)) ∧
  (∀ s : State, exec .reserved68 s = .refused .reservedOpcode)

/-! ### The host's operations -/

/-- R160: run entry, in any run state but RUNNING. The seed is a free value: the statement holds for every one (log 7). The
queue (log 9), the run counter (log 7) and the field that holds `LIMIT` (log 5) are the model's choice. -/
def Obligations.RunEntry : Prop :=
  ∀ (s : State) (limit start : Int) (later : List HostOp), s.rs ≠ .running →
    s.env.pending = .run limit start :: later →
    ∃ seed : Nat, ∃ t : State, step s = .next t ∧
      (start < 0 → t.regs = s.regs) ∧
      (0 ≤ start → (t.pc.toNat : Int) = start % 65536 ∧ ∀ m, m ≠ s.p → t.reg m = s.reg m) ∧
      t = { s with
        regs := t.regs, dbc := seed, ef4 := s.env.inLine, cyc := 0, rs := .running, limit := limit
        env := { s.env with pending := later, runs := s.env.runs + 1 } }

/-- R179, R180: reset does exactly these writes and leaves everything else as it was; a second reset changes nothing more.
The queue is the model's choice (log 9), that the model's records stay is its inference (log 22), and the argument of R180 is
marked derived in the spec. -/
def Obligations.ResetOperation : Prop :=
  ∀ (s : State) (later : List HostOp), s.rs ≠ .running → s.env.pending = .reset :: later →
    ∃ t : State, step s = .next t ∧ (∀ m, t.reg m = if m = 0 then 0 else s.reg m) ∧
      t = { s with
        regs := t.regs, d := 0, bus := 0, p := 0, x := 0, n := 0, ie := true, q := false
        ef1 := true, ef2 := true, ef3 := true, ef4 := true, rs := .idle
        env := { s.env with pending := later } } ∧
      (later = .reset :: [] → step t = .next { t with env := { s.env with pending := [] } })

/-- R181, R182: the clear operations write what they name and nothing else; clearing memory does not obey `MWE`. The
queue is the model's choice (log 9). -/
def Obligations.ClearOperations : Prop :=
  ∀ (s : State) (later : List HostOp), s.rs ≠ .running →
    (s.env.pending = .clearRegisters :: later → ∃ t, step s = .next t ∧ (∀ m, t.reg m = 0) ∧
      t = { s with regs := t.regs, env := { s.env with pending := later } }) ∧
    (s.env.pending = .clearMemory :: later → ∃ t, step s = .next t ∧
      (∀ a : Word, t.peek a = if a.toNat < s.params.cap.val then 0 else 0xFF) ∧
      t = { s with mem := t.mem, env := { s.env with pending := later } })

/-- R21, R24, R35, R40: the levels that the host drives, and `disp_clear`, between runs; each changes the one item it names.
The queue is the model's choice (log 9). -/
def Obligations.HostLevels : Prop :=
  ∀ (s : State) (v : Bool) (later : List HostOp), s.rs ≠ .running →
    let served : HostSide := { s.env with pending := later }
    (s.env.pending = .dispClear :: later → step s = .next { s with disp := false, env := served }) ∧
    (s.env.pending = .setMwe v :: later → step s = .next { s with mwe := v, env := served }) ∧
    (s.env.pending = .setInLine v :: later → step s = .next { s with env := { served with inLine := v } }) ∧
    (s.env.pending = .setEf .ef1 v :: later → step s = .next { s with ef1 := v, env := served }) ∧
    (s.env.pending = .setEf .ef2 v :: later → step s = .next { s with ef2 := v, env := served }) ∧
    (s.env.pending = .setEf .ef3 v :: later → step s = .next { s with ef3 := v, env := served })

/-- R183: the values of the power-on state that the spec gives, and no others. -/
def Obligations.PowerOnValues : Prop :=
  let s := State.reset
  s.d = 0 ∧ s.bus = 0 ∧ s.p = 0 ∧ s.x = 0 ∧ s.n = 0 ∧ s.ie = true ∧ s.q = false ∧
  s.ef1 = true ∧ s.ef2 = true ∧ s.ef3 = true ∧ s.ef4 = true ∧ s.reg 0 = 0 ∧ s.cyc = 0 ∧ s.disp = false ∧
  s.mwe = s.params.mweInit ∧ s.rs = .idle ∧
  (∀ p : Port, s.ports.outDevs[p.toNat]'(p.isLt) = [] ∧ s.ports.inDevs[p.toNat]'(p.isLt) = [])

/-- R153: attaching a device appends it to the list of the port, given modulo 8, and changes no other list. The
queue is the model's choice (log 9). -/
def Obligations.AttachAppends : Prop :=
  ∀ (s : State) (port device : Nat) (dev : InDevice) (later : List HostOp) (q : Port), s.rs ≠ .running →
    (s.env.pending = .attachOut port device :: later → ∃ t, step s = .next t ∧
      t.ports.outDevs[q.toNat]'(q.isLt) =
        s.ports.outDevs[q.toNat]'(q.isLt) ++ (if q.toNat = port % 8 then [device] else []) ∧
      t = { s with ports := { s.ports with outDevs := t.ports.outDevs }, env := { s.env with pending := later } }) ∧
    (s.env.pending = .attachIn port dev :: later → ∃ t, step s = .next t ∧
      t.ports.inDevs[q.toNat]'(q.isLt) =
        s.ports.inDevs[q.toNat]'(q.isLt) ++ (if q.toNat = port % 8 then [dev] else []) ∧
      t = { s with ports := { s.ports with inDevs := t.ports.inDevs }, env := { s.env with pending := later } })

/-! ### Hazards -/

/-- R185, an inference that the spec marks as its own, the rows `n = P`
(INC, DEC, GLO, GHI, PLO, PHI, LDN, LDA, STR, SEP, SEX), of the step. -/
def Obligations.RegisterIsTheProgramCounter : Prop :=
  ∀ s t : State, s.fetches → (s.peek s.pc).extractLsb' 0 4 = s.p → step s = .next t →
    ((s.peek s.pc).extractLsb' 4 4 = 0x1 → t.pc = s.pc + 2) ∧
    ((s.peek s.pc).extractLsb' 4 4 = 0x2 → t.pc = s.pc) ∧
    ((s.peek s.pc).extractLsb' 4 4 = 0x8 → t.pc = s.pc + 1 ∧ t.d.toNat = (s.pc + 1).toNat % 256) ∧
    ((s.peek s.pc).extractLsb' 4 4 = 0x9 → t.pc = s.pc + 1 ∧ t.d.toNat = (s.pc + 1).toNat / 256) ∧
    ((s.peek s.pc).extractLsb' 4 4 = 0xA → t.pc.toNat = (s.pc + 1).toNat / 256 * 256 + s.d.toNat) ∧
    ((s.peek s.pc).extractLsb' 4 4 = 0xB → t.pc.toNat = s.d.toNat * 256 + (s.pc + 1).toNat % 256) ∧
    ((s.peek s.pc).extractLsb' 4 4 = 0x0 → s.p ≠ 0 → t.d = s.peek (s.pc + 1) ∧ t.pc = s.pc + 1) ∧
    ((s.peek s.pc).extractLsb' 4 4 = 0x4 → t.d = s.peek (s.pc + 1) ∧ t.pc = s.pc + 2) ∧
    ((s.peek s.pc).extractLsb' 4 4 = 0x5 → s.mwe = true → (s.pc + 1).toNat < s.params.cap.val →
      t.pc = s.pc + 1 ∧ t.peek t.pc = s.d) ∧
    ((s.peek s.pc).extractLsb' 4 4 = 0xD → t.p = s.p ∧ t.pc = s.pc + 1) ∧
    ((s.peek s.pc).extractLsb' 4 4 = 0xE → t.x = t.p ∧ t.p = s.p ∧ t.pc = s.pc + 1)

/-- R185, an inference that the spec marks as its own, the rows `X = P` (LDX, OR, AND, XOR, ADD, ADC, SD, SDB, SM, SMB, LDXA,
OUT, RET, DIS, IRX, STXD, INP), of the step. `m` is the byte after the opcode byte. STXD returns to its own opcode byte, which
its store has not touched. That an OUT enters the output history also with no device attached is the model's choice (log 14). -/
def Obligations.PointerIsTheProgramCounter : Prop :=
  ∀ s t : State, s.fetches → s.x = s.p → step s = .next t →
    let m : Byte := s.peek (s.pc + 1);
    (s.peek s.pc = 0xF0 → t.d = s.peek (s.pc + 1) ∧ t.pc = s.pc + 1) ∧
    (s.peek s.pc = 0x72 → t.d = s.peek (s.pc + 1) ∧ t.pc = s.pc + 2) ∧
    ((s.peek s.pc).extractLsb' 3 5 = 0b01100 → s.peek s.pc ≠ 0x60 → t.pc = s.pc + 2 ∧
      t.ports.outHist = s.ports.outHist ++ [{ port := (s.peek s.pc).extractLsb' 0 3, byte := s.peek (s.pc + 1) }]) ∧
    (s.peek s.pc = 0x60 → t.pc = s.pc + 2) ∧
    (s.peek s.pc = 0x73 → t.pc = s.pc ∧ t.peek s.pc = 0x73 ∧
      (s.mwe = true → (s.pc + 1).toNat < s.params.cap.val → t.peek (s.pc + 1) = s.d)) ∧
    ((s.peek s.pc).extractLsb' 3 5 = 0b01101 → s.mwe = true → (s.pc + 1).toNat < s.params.cap.val →
      t.pc = s.pc + 1 ∧ t.peek t.pc = s.portInByte ((s.peek s.pc).extractLsb' 0 3)) ∧
    (∀ e ∈ [((0xF1 : Byte), m ||| s.d), (0xF2, m &&& s.d), (0xF3, m ^^^ s.d)],
      s.peek s.pc = e.1 → t.d = e.2 ∧ t.df = s.df ∧ t.pc = s.pc + 1) ∧
    (∀ e ∈ [((0xF4 : Byte), m.toNat + s.d.toNat), (0x74, m.toNat + s.d.toNat + s.df.toNat),
        (0xF5, m.toNat + (0xFF - s.d.toNat) + 1), (0x75, m.toNat + (0xFF - s.d.toNat) + s.df.toNat),
        (0xF7, s.d.toNat + (0xFF - m.toNat) + 1), (0x77, s.d.toNat + (0xFF - m.toNat) + s.df.toNat)],
      s.peek s.pc = e.1 → t.d.toNat = e.2 % 256 ∧ t.df = decide (e.2 > 255) ∧ t.pc = s.pc + 1) ∧
    (∀ e ∈ [((0x70 : Byte), true), (0x71, false)], s.peek s.pc = e.1 →
      t.x.toNat = m.toNat / 16 ∧ t.p.toNat = m.toNat % 16 ∧ t.ie = e.2 ∧
      (s.params.retIncNewX = false → t.reg s.p = s.pc + 2) ∧
      (s.params.retIncNewX = true → t.reg t.x = (s.setReg s.p (s.pc + 1)).reg t.x + 1))

/-- R16, R106, R187: a program counter that has run above `CAP` fetches 0xFF, that is `SMI 0xFF`: it adds 1 to `D` modulo 256,
`DF` is 0 unless `D` was 0xFF, and `pc` moves on by 2, with wrap-around. -/
def Obligations.FetchBeyondMemory : Prop :=
  ∀ s : State, s.fetches → s.params.cap.val ≤ s.pc.toNat → s.params.cap.val ≤ (s.pc + 1).toNat →
    ∃ t, step s = .next t ∧ t.d.toNat = (s.d.toNat + 1) % 256 ∧ t.df = decide (s.d = 0xFF) ∧
      t.pc.toNat = (s.pc.toNat + 2) % 65536 ∧ t.cyc = s.cyc + 2
end

