-- ==== Sys2Proof/Laws/Decode.lean ====
section
/-! SUPPORT. Small lemmas of the decoder and the encoder, row by row of the map of R58. -/

namespace Sys2Proof

open Sys2Proof.Machine (hiNibble loNibble portOf joinBytes hiByte loByte)

theorem opcode_decodeRow3 (n : Nibble) (a : Byte) : opcode (decodeRow3 n a) = 0x3#4 ++ n := by
  revert n; exact of_decide_eq_true rfl

theorem opcode_decodeRow6 (n : Nibble) : opcode (decodeRow6 n) = 0x6#4 ++ n := by
  revert n; decide

theorem opcode_decodeRow7 (n : Nibble) (a : Byte) : opcode (decodeRow7 n a) = 0x7#4 ++ n := by
  revert n; exact of_decide_eq_true rfl

theorem opcode_decodeRowC (n : Nibble) (t : Word) : opcode (decodeRowC n t) = 0xC#4 ++ n := by
  revert n; exact of_decide_eq_true rfl

theorem opcode_decodeRowF (n : Nibble) (a : Byte) : opcode (decodeRowF n a) = 0xF#4 ++ n := by
  revert n; exact of_decide_eq_true rfl

/-- The decoder's instruction has the opcode byte it was decoded from: every byte selects one instruction (R54). -/
theorem opcode_decodeOp (op a b : Byte) : opcode (decodeOp op a b) = op := by
  revert op; exact of_decide_eq_true rfl

/-- The decoder gives no ill-formed instruction (R58). -/
theorem wellFormed_decodeOp (op a b : Byte) : (decodeOp op a b).wellFormed = true := by
  revert op; exact of_decide_eq_true rfl

/-- The length table of R56 has three values. -/
theorem instrLength_cases (op : Byte) : instrLength op = 1 ∨ instrLength op = 2 ∨ instrLength op = 3 := by
  revert op; decide

/-- The halves and the nibbles as numbers (R9, R54). -/
theorem joinBytes_toNat (hi lo : Byte) : (joinBytes hi lo).toNat = hi.toNat * 256 + lo.toNat := by
  rw [joinBytes, BitVec.toNat_append, ← Nat.shiftLeft_add_eq_or_of_lt lo.isLt, Nat.shiftLeft_eq]

theorem hiByte_toNat (w : Word) : (hiByte w).toNat = w.toNat / 256 := by
  rw [hiByte, BitVec.extractLsb'_toNat, Nat.shiftRight_eq_div_pow]
  have := w.isLt; omega

theorem loByte_toNat (w : Word) : (loByte w).toNat = w.toNat % 256 := by
  rw [loByte, BitVec.extractLsb'_toNat, Nat.shiftRight_zero]

theorem hiNibble_toNat (b : Byte) : (hiNibble b).toNat = b.toNat / 16 := by
  rw [hiNibble, BitVec.extractLsb'_toNat, Nat.shiftRight_eq_div_pow]
  have := b.isLt; omega

theorem loNibble_toNat (b : Byte) : (loNibble b).toNat = b.toNat % 16 := by
  rw [loNibble, BitVec.extractLsb'_toNat, Nat.shiftRight_zero]

/-- The two halves of a joined word, and a word joined from its halves (R43). -/
@[simp] theorem hiByte_joinBytes (hi lo : Byte) : hiByte (joinBytes hi lo) = hi := by
  apply BitVec.eq_of_toNat_eq
  have := lo.isLt
  rw [hiByte_toNat, joinBytes_toNat]; omega

@[simp] theorem loByte_joinBytes (hi lo : Byte) : loByte (joinBytes hi lo) = lo := by
  apply BitVec.eq_of_toNat_eq
  have := lo.isLt
  rw [loByte_toNat, joinBytes_toNat]; omega

@[simp] theorem joinBytes_halves (w : Word) : joinBytes (hiByte w) (loByte w) = w := by
  apply BitVec.eq_of_toNat_eq
  rw [joinBytes_toNat, hiByte_toNat, loByte_toNat]; omega

/-- The opcode byte 0x00 is the halt's, and no other's (R58, R164). -/
theorem decodeOp_eq_idl (op a b : Byte) : decodeOp op a b = .idl ↔ op = 0x00 := by
  constructor
  · intro h; rw [← opcode_decodeOp op a b, h]; rfl
  · rintro rfl; rfl

/-- The two nibbles of an opcode byte make it up (R54). -/
theorem hiNibble_append_loNibble (op : Byte) : hiNibble op ++ loNibble op = op := by
  revert op; decide

end Sys2Proof
end

