-- ==== Sys2Proof/Laws/State.lean ====
section
/-! SUPPORT. One lemma per field per update of State, true by rfl, so that no later proof unfolds a record update; and the
same for the reads `reg`, `pc`, `rx` and `peek`. The composed operations unfold into these updates. -/

namespace Sys2Proof.Machine

variable (s : State)

/-! ### setReg -/

@[simp] theorem State.setReg_regs (n : Nibble) (v : Word) : (s.setReg n v).regs = s.regs.set n.toNat v n.isLt := rfl
@[simp] theorem State.setReg_p (n : Nibble) (v : Word) : (s.setReg n v).p = s.p := rfl
@[simp] theorem State.setReg_x (n : Nibble) (v : Word) : (s.setReg n v).x = s.x := rfl
@[simp] theorem State.setReg_n (n : Nibble) (v : Word) : (s.setReg n v).n = s.n := rfl
@[simp] theorem State.setReg_d (n : Nibble) (v : Word) : (s.setReg n v).d = s.d := rfl
@[simp] theorem State.setReg_df (n : Nibble) (v : Word) : (s.setReg n v).df = s.df := rfl
@[simp] theorem State.setReg_ie (n : Nibble) (v : Word) : (s.setReg n v).ie = s.ie := rfl
@[simp] theorem State.setReg_q (n : Nibble) (v : Word) : (s.setReg n v).q = s.q := rfl
@[simp] theorem State.setReg_ef1 (n : Nibble) (v : Word) : (s.setReg n v).ef1 = s.ef1 := rfl
@[simp] theorem State.setReg_ef2 (n : Nibble) (v : Word) : (s.setReg n v).ef2 = s.ef2 := rfl
@[simp] theorem State.setReg_ef3 (n : Nibble) (v : Word) : (s.setReg n v).ef3 = s.ef3 := rfl
@[simp] theorem State.setReg_ef4 (n : Nibble) (v : Word) : (s.setReg n v).ef4 = s.ef4 := rfl
@[simp] theorem State.setReg_dbc (n : Nibble) (v : Word) : (s.setReg n v).dbc = s.dbc := rfl
@[simp] theorem State.setReg_mem (n : Nibble) (v : Word) : (s.setReg n v).mem = s.mem := rfl
@[simp] theorem State.setReg_mwe (n : Nibble) (v : Word) : (s.setReg n v).mwe = s.mwe := rfl
@[simp] theorem State.setReg_bus (n : Nibble) (v : Word) : (s.setReg n v).bus = s.bus := rfl
@[simp] theorem State.setReg_trace (n : Nibble) (v : Word) : (s.setReg n v).trace = s.trace := rfl
@[simp] theorem State.setReg_rs (n : Nibble) (v : Word) : (s.setReg n v).rs = s.rs := rfl
@[simp] theorem State.setReg_haddr (n : Nibble) (v : Word) : (s.setReg n v).haddr = s.haddr := rfl
@[simp] theorem State.setReg_cyc (n : Nibble) (v : Word) : (s.setReg n v).cyc = s.cyc := rfl
@[simp] theorem State.setReg_limit (n : Nibble) (v : Word) : (s.setReg n v).limit = s.limit := rfl
@[simp] theorem State.setReg_disp (n : Nibble) (v : Word) : (s.setReg n v).disp = s.disp := rfl
@[simp] theorem State.setReg_ports (n : Nibble) (v : Word) : (s.setReg n v).ports = s.ports := rfl
@[simp] theorem State.setReg_diag (n : Nibble) (v : Word) : (s.setReg n v).diag = s.diag := rfl
@[simp] theorem State.setReg_env (n : Nibble) (v : Word) : (s.setReg n v).env = s.env := rfl
@[simp] theorem State.setReg_params (n : Nibble) (v : Word) : (s.setReg n v).params = s.params := rfl
@[simp] theorem State.setReg_peek (n : Nibble) (v : Word) (b : Word) : (s.setReg n v).peek b = s.peek b := rfl

/-! ### setP -/

@[simp] theorem State.setP_regs (v : Nibble) : (s.setP v).regs = s.regs := rfl
@[simp] theorem State.setP_p (v : Nibble) : (s.setP v).p = v := rfl
@[simp] theorem State.setP_x (v : Nibble) : (s.setP v).x = s.x := rfl
@[simp] theorem State.setP_n (v : Nibble) : (s.setP v).n = s.n := rfl
@[simp] theorem State.setP_d (v : Nibble) : (s.setP v).d = s.d := rfl
@[simp] theorem State.setP_df (v : Nibble) : (s.setP v).df = s.df := rfl
@[simp] theorem State.setP_ie (v : Nibble) : (s.setP v).ie = s.ie := rfl
@[simp] theorem State.setP_q (v : Nibble) : (s.setP v).q = s.q := rfl
@[simp] theorem State.setP_ef1 (v : Nibble) : (s.setP v).ef1 = s.ef1 := rfl
@[simp] theorem State.setP_ef2 (v : Nibble) : (s.setP v).ef2 = s.ef2 := rfl
@[simp] theorem State.setP_ef3 (v : Nibble) : (s.setP v).ef3 = s.ef3 := rfl
@[simp] theorem State.setP_ef4 (v : Nibble) : (s.setP v).ef4 = s.ef4 := rfl
@[simp] theorem State.setP_dbc (v : Nibble) : (s.setP v).dbc = s.dbc := rfl
@[simp] theorem State.setP_mem (v : Nibble) : (s.setP v).mem = s.mem := rfl
@[simp] theorem State.setP_mwe (v : Nibble) : (s.setP v).mwe = s.mwe := rfl
@[simp] theorem State.setP_bus (v : Nibble) : (s.setP v).bus = s.bus := rfl
@[simp] theorem State.setP_trace (v : Nibble) : (s.setP v).trace = s.trace := rfl
@[simp] theorem State.setP_rs (v : Nibble) : (s.setP v).rs = s.rs := rfl
@[simp] theorem State.setP_haddr (v : Nibble) : (s.setP v).haddr = s.haddr := rfl
@[simp] theorem State.setP_cyc (v : Nibble) : (s.setP v).cyc = s.cyc := rfl
@[simp] theorem State.setP_limit (v : Nibble) : (s.setP v).limit = s.limit := rfl
@[simp] theorem State.setP_disp (v : Nibble) : (s.setP v).disp = s.disp := rfl
@[simp] theorem State.setP_ports (v : Nibble) : (s.setP v).ports = s.ports := rfl
@[simp] theorem State.setP_diag (v : Nibble) : (s.setP v).diag = s.diag := rfl
@[simp] theorem State.setP_env (v : Nibble) : (s.setP v).env = s.env := rfl
@[simp] theorem State.setP_params (v : Nibble) : (s.setP v).params = s.params := rfl
@[simp] theorem State.setP_reg (v : Nibble) (m : Nibble) : (s.setP v).reg m = s.reg m := rfl
@[simp] theorem State.setP_pc (v : Nibble) : (s.setP v).pc = s.reg v := rfl
@[simp] theorem State.setP_rx (v : Nibble) : (s.setP v).rx = s.rx := rfl
@[simp] theorem State.setP_peek (v : Nibble) (b : Word) : (s.setP v).peek b = s.peek b := rfl

/-! ### setX -/

@[simp] theorem State.setX_regs (v : Nibble) : (s.setX v).regs = s.regs := rfl
@[simp] theorem State.setX_p (v : Nibble) : (s.setX v).p = s.p := rfl
@[simp] theorem State.setX_x (v : Nibble) : (s.setX v).x = v := rfl
@[simp] theorem State.setX_n (v : Nibble) : (s.setX v).n = s.n := rfl
@[simp] theorem State.setX_d (v : Nibble) : (s.setX v).d = s.d := rfl
@[simp] theorem State.setX_df (v : Nibble) : (s.setX v).df = s.df := rfl
@[simp] theorem State.setX_ie (v : Nibble) : (s.setX v).ie = s.ie := rfl
@[simp] theorem State.setX_q (v : Nibble) : (s.setX v).q = s.q := rfl
@[simp] theorem State.setX_ef1 (v : Nibble) : (s.setX v).ef1 = s.ef1 := rfl
@[simp] theorem State.setX_ef2 (v : Nibble) : (s.setX v).ef2 = s.ef2 := rfl
@[simp] theorem State.setX_ef3 (v : Nibble) : (s.setX v).ef3 = s.ef3 := rfl
@[simp] theorem State.setX_ef4 (v : Nibble) : (s.setX v).ef4 = s.ef4 := rfl
@[simp] theorem State.setX_dbc (v : Nibble) : (s.setX v).dbc = s.dbc := rfl
@[simp] theorem State.setX_mem (v : Nibble) : (s.setX v).mem = s.mem := rfl
@[simp] theorem State.setX_mwe (v : Nibble) : (s.setX v).mwe = s.mwe := rfl
@[simp] theorem State.setX_bus (v : Nibble) : (s.setX v).bus = s.bus := rfl
@[simp] theorem State.setX_trace (v : Nibble) : (s.setX v).trace = s.trace := rfl
@[simp] theorem State.setX_rs (v : Nibble) : (s.setX v).rs = s.rs := rfl
@[simp] theorem State.setX_haddr (v : Nibble) : (s.setX v).haddr = s.haddr := rfl
@[simp] theorem State.setX_cyc (v : Nibble) : (s.setX v).cyc = s.cyc := rfl
@[simp] theorem State.setX_limit (v : Nibble) : (s.setX v).limit = s.limit := rfl
@[simp] theorem State.setX_disp (v : Nibble) : (s.setX v).disp = s.disp := rfl
@[simp] theorem State.setX_ports (v : Nibble) : (s.setX v).ports = s.ports := rfl
@[simp] theorem State.setX_diag (v : Nibble) : (s.setX v).diag = s.diag := rfl
@[simp] theorem State.setX_env (v : Nibble) : (s.setX v).env = s.env := rfl
@[simp] theorem State.setX_params (v : Nibble) : (s.setX v).params = s.params := rfl
@[simp] theorem State.setX_reg (v : Nibble) (m : Nibble) : (s.setX v).reg m = s.reg m := rfl
@[simp] theorem State.setX_pc (v : Nibble) : (s.setX v).pc = s.pc := rfl
@[simp] theorem State.setX_rx (v : Nibble) : (s.setX v).rx = s.reg v := rfl
@[simp] theorem State.setX_peek (v : Nibble) (b : Word) : (s.setX v).peek b = s.peek b := rfl

/-! ### setD -/

@[simp] theorem State.setD_regs (v : Byte) : (s.setD v).regs = s.regs := rfl
@[simp] theorem State.setD_p (v : Byte) : (s.setD v).p = s.p := rfl
@[simp] theorem State.setD_x (v : Byte) : (s.setD v).x = s.x := rfl
@[simp] theorem State.setD_n (v : Byte) : (s.setD v).n = s.n := rfl
@[simp] theorem State.setD_d (v : Byte) : (s.setD v).d = v := rfl
@[simp] theorem State.setD_df (v : Byte) : (s.setD v).df = s.df := rfl
@[simp] theorem State.setD_ie (v : Byte) : (s.setD v).ie = s.ie := rfl
@[simp] theorem State.setD_q (v : Byte) : (s.setD v).q = s.q := rfl
@[simp] theorem State.setD_ef1 (v : Byte) : (s.setD v).ef1 = s.ef1 := rfl
@[simp] theorem State.setD_ef2 (v : Byte) : (s.setD v).ef2 = s.ef2 := rfl
@[simp] theorem State.setD_ef3 (v : Byte) : (s.setD v).ef3 = s.ef3 := rfl
@[simp] theorem State.setD_ef4 (v : Byte) : (s.setD v).ef4 = s.ef4 := rfl
@[simp] theorem State.setD_dbc (v : Byte) : (s.setD v).dbc = s.dbc := rfl
@[simp] theorem State.setD_mem (v : Byte) : (s.setD v).mem = s.mem := rfl
@[simp] theorem State.setD_mwe (v : Byte) : (s.setD v).mwe = s.mwe := rfl
@[simp] theorem State.setD_bus (v : Byte) : (s.setD v).bus = s.bus := rfl
@[simp] theorem State.setD_trace (v : Byte) : (s.setD v).trace = s.trace := rfl
@[simp] theorem State.setD_rs (v : Byte) : (s.setD v).rs = s.rs := rfl
@[simp] theorem State.setD_haddr (v : Byte) : (s.setD v).haddr = s.haddr := rfl
@[simp] theorem State.setD_cyc (v : Byte) : (s.setD v).cyc = s.cyc := rfl
@[simp] theorem State.setD_limit (v : Byte) : (s.setD v).limit = s.limit := rfl
@[simp] theorem State.setD_disp (v : Byte) : (s.setD v).disp = s.disp := rfl
@[simp] theorem State.setD_ports (v : Byte) : (s.setD v).ports = s.ports := rfl
@[simp] theorem State.setD_diag (v : Byte) : (s.setD v).diag = s.diag := rfl
@[simp] theorem State.setD_env (v : Byte) : (s.setD v).env = s.env := rfl
@[simp] theorem State.setD_params (v : Byte) : (s.setD v).params = s.params := rfl
@[simp] theorem State.setD_reg (v : Byte) (m : Nibble) : (s.setD v).reg m = s.reg m := rfl
@[simp] theorem State.setD_pc (v : Byte) : (s.setD v).pc = s.pc := rfl
@[simp] theorem State.setD_rx (v : Byte) : (s.setD v).rx = s.rx := rfl
@[simp] theorem State.setD_peek (v : Byte) (b : Word) : (s.setD v).peek b = s.peek b := rfl

/-! ### setDF -/

@[simp] theorem State.setDF_regs (v : Bool) : (s.setDF v).regs = s.regs := rfl
@[simp] theorem State.setDF_p (v : Bool) : (s.setDF v).p = s.p := rfl
@[simp] theorem State.setDF_x (v : Bool) : (s.setDF v).x = s.x := rfl
@[simp] theorem State.setDF_n (v : Bool) : (s.setDF v).n = s.n := rfl
@[simp] theorem State.setDF_d (v : Bool) : (s.setDF v).d = s.d := rfl
@[simp] theorem State.setDF_df (v : Bool) : (s.setDF v).df = v := rfl
@[simp] theorem State.setDF_ie (v : Bool) : (s.setDF v).ie = s.ie := rfl
@[simp] theorem State.setDF_q (v : Bool) : (s.setDF v).q = s.q := rfl
@[simp] theorem State.setDF_ef1 (v : Bool) : (s.setDF v).ef1 = s.ef1 := rfl
@[simp] theorem State.setDF_ef2 (v : Bool) : (s.setDF v).ef2 = s.ef2 := rfl
@[simp] theorem State.setDF_ef3 (v : Bool) : (s.setDF v).ef3 = s.ef3 := rfl
@[simp] theorem State.setDF_ef4 (v : Bool) : (s.setDF v).ef4 = s.ef4 := rfl
@[simp] theorem State.setDF_dbc (v : Bool) : (s.setDF v).dbc = s.dbc := rfl
@[simp] theorem State.setDF_mem (v : Bool) : (s.setDF v).mem = s.mem := rfl
@[simp] theorem State.setDF_mwe (v : Bool) : (s.setDF v).mwe = s.mwe := rfl
@[simp] theorem State.setDF_bus (v : Bool) : (s.setDF v).bus = s.bus := rfl
@[simp] theorem State.setDF_trace (v : Bool) : (s.setDF v).trace = s.trace := rfl
@[simp] theorem State.setDF_rs (v : Bool) : (s.setDF v).rs = s.rs := rfl
@[simp] theorem State.setDF_haddr (v : Bool) : (s.setDF v).haddr = s.haddr := rfl
@[simp] theorem State.setDF_cyc (v : Bool) : (s.setDF v).cyc = s.cyc := rfl
@[simp] theorem State.setDF_limit (v : Bool) : (s.setDF v).limit = s.limit := rfl
@[simp] theorem State.setDF_disp (v : Bool) : (s.setDF v).disp = s.disp := rfl
@[simp] theorem State.setDF_ports (v : Bool) : (s.setDF v).ports = s.ports := rfl
@[simp] theorem State.setDF_diag (v : Bool) : (s.setDF v).diag = s.diag := rfl
@[simp] theorem State.setDF_env (v : Bool) : (s.setDF v).env = s.env := rfl
@[simp] theorem State.setDF_params (v : Bool) : (s.setDF v).params = s.params := rfl
@[simp] theorem State.setDF_reg (v : Bool) (m : Nibble) : (s.setDF v).reg m = s.reg m := rfl
@[simp] theorem State.setDF_pc (v : Bool) : (s.setDF v).pc = s.pc := rfl
@[simp] theorem State.setDF_rx (v : Bool) : (s.setDF v).rx = s.rx := rfl
@[simp] theorem State.setDF_peek (v : Bool) (b : Word) : (s.setDF v).peek b = s.peek b := rfl

/-! ### setQ -/

@[simp] theorem State.setQ_regs (v : Bool) : (s.setQ v).regs = s.regs := rfl
@[simp] theorem State.setQ_p (v : Bool) : (s.setQ v).p = s.p := rfl
@[simp] theorem State.setQ_x (v : Bool) : (s.setQ v).x = s.x := rfl
@[simp] theorem State.setQ_n (v : Bool) : (s.setQ v).n = s.n := rfl
@[simp] theorem State.setQ_d (v : Bool) : (s.setQ v).d = s.d := rfl
@[simp] theorem State.setQ_df (v : Bool) : (s.setQ v).df = s.df := rfl
@[simp] theorem State.setQ_ie (v : Bool) : (s.setQ v).ie = s.ie := rfl
@[simp] theorem State.setQ_q (v : Bool) : (s.setQ v).q = v := rfl
@[simp] theorem State.setQ_ef1 (v : Bool) : (s.setQ v).ef1 = s.ef1 := rfl
@[simp] theorem State.setQ_ef2 (v : Bool) : (s.setQ v).ef2 = s.ef2 := rfl
@[simp] theorem State.setQ_ef3 (v : Bool) : (s.setQ v).ef3 = s.ef3 := rfl
@[simp] theorem State.setQ_ef4 (v : Bool) : (s.setQ v).ef4 = s.ef4 := rfl
@[simp] theorem State.setQ_dbc (v : Bool) : (s.setQ v).dbc = s.dbc := rfl
@[simp] theorem State.setQ_mem (v : Bool) : (s.setQ v).mem = s.mem := rfl
@[simp] theorem State.setQ_mwe (v : Bool) : (s.setQ v).mwe = s.mwe := rfl
@[simp] theorem State.setQ_bus (v : Bool) : (s.setQ v).bus = s.bus := rfl
@[simp] theorem State.setQ_trace (v : Bool) : (s.setQ v).trace = s.trace := rfl
@[simp] theorem State.setQ_rs (v : Bool) : (s.setQ v).rs = s.rs := rfl
@[simp] theorem State.setQ_haddr (v : Bool) : (s.setQ v).haddr = s.haddr := rfl
@[simp] theorem State.setQ_cyc (v : Bool) : (s.setQ v).cyc = s.cyc := rfl
@[simp] theorem State.setQ_limit (v : Bool) : (s.setQ v).limit = s.limit := rfl
@[simp] theorem State.setQ_disp (v : Bool) : (s.setQ v).disp = s.disp := rfl
@[simp] theorem State.setQ_ports (v : Bool) : (s.setQ v).ports = s.ports := rfl
@[simp] theorem State.setQ_diag (v : Bool) : (s.setQ v).diag = s.diag := rfl
@[simp] theorem State.setQ_env (v : Bool) : (s.setQ v).env = s.env := rfl
@[simp] theorem State.setQ_params (v : Bool) : (s.setQ v).params = s.params := rfl
@[simp] theorem State.setQ_reg (v : Bool) (m : Nibble) : (s.setQ v).reg m = s.reg m := rfl
@[simp] theorem State.setQ_pc (v : Bool) : (s.setQ v).pc = s.pc := rfl
@[simp] theorem State.setQ_rx (v : Bool) : (s.setQ v).rx = s.rx := rfl
@[simp] theorem State.setQ_peek (v : Bool) (b : Word) : (s.setQ v).peek b = s.peek b := rfl

/-! ### setIE -/

@[simp] theorem State.setIE_regs (v : Bool) : (s.setIE v).regs = s.regs := rfl
@[simp] theorem State.setIE_p (v : Bool) : (s.setIE v).p = s.p := rfl
@[simp] theorem State.setIE_x (v : Bool) : (s.setIE v).x = s.x := rfl
@[simp] theorem State.setIE_n (v : Bool) : (s.setIE v).n = s.n := rfl
@[simp] theorem State.setIE_d (v : Bool) : (s.setIE v).d = s.d := rfl
@[simp] theorem State.setIE_df (v : Bool) : (s.setIE v).df = s.df := rfl
@[simp] theorem State.setIE_ie (v : Bool) : (s.setIE v).ie = v := rfl
@[simp] theorem State.setIE_q (v : Bool) : (s.setIE v).q = s.q := rfl
@[simp] theorem State.setIE_ef1 (v : Bool) : (s.setIE v).ef1 = s.ef1 := rfl
@[simp] theorem State.setIE_ef2 (v : Bool) : (s.setIE v).ef2 = s.ef2 := rfl
@[simp] theorem State.setIE_ef3 (v : Bool) : (s.setIE v).ef3 = s.ef3 := rfl
@[simp] theorem State.setIE_ef4 (v : Bool) : (s.setIE v).ef4 = s.ef4 := rfl
@[simp] theorem State.setIE_dbc (v : Bool) : (s.setIE v).dbc = s.dbc := rfl
@[simp] theorem State.setIE_mem (v : Bool) : (s.setIE v).mem = s.mem := rfl
@[simp] theorem State.setIE_mwe (v : Bool) : (s.setIE v).mwe = s.mwe := rfl
@[simp] theorem State.setIE_bus (v : Bool) : (s.setIE v).bus = s.bus := rfl
@[simp] theorem State.setIE_trace (v : Bool) : (s.setIE v).trace = s.trace := rfl
@[simp] theorem State.setIE_rs (v : Bool) : (s.setIE v).rs = s.rs := rfl
@[simp] theorem State.setIE_haddr (v : Bool) : (s.setIE v).haddr = s.haddr := rfl
@[simp] theorem State.setIE_cyc (v : Bool) : (s.setIE v).cyc = s.cyc := rfl
@[simp] theorem State.setIE_limit (v : Bool) : (s.setIE v).limit = s.limit := rfl
@[simp] theorem State.setIE_disp (v : Bool) : (s.setIE v).disp = s.disp := rfl
@[simp] theorem State.setIE_ports (v : Bool) : (s.setIE v).ports = s.ports := rfl
@[simp] theorem State.setIE_diag (v : Bool) : (s.setIE v).diag = s.diag := rfl
@[simp] theorem State.setIE_env (v : Bool) : (s.setIE v).env = s.env := rfl
@[simp] theorem State.setIE_params (v : Bool) : (s.setIE v).params = s.params := rfl
@[simp] theorem State.setIE_reg (v : Bool) (m : Nibble) : (s.setIE v).reg m = s.reg m := rfl
@[simp] theorem State.setIE_pc (v : Bool) : (s.setIE v).pc = s.pc := rfl
@[simp] theorem State.setIE_rx (v : Bool) : (s.setIE v).rx = s.rx := rfl
@[simp] theorem State.setIE_peek (v : Bool) (b : Word) : (s.setIE v).peek b = s.peek b := rfl

/-! ### setDbc -/

@[simp] theorem State.setDbc_regs (v : Nat) : (s.setDbc v).regs = s.regs := rfl
@[simp] theorem State.setDbc_p (v : Nat) : (s.setDbc v).p = s.p := rfl
@[simp] theorem State.setDbc_x (v : Nat) : (s.setDbc v).x = s.x := rfl
@[simp] theorem State.setDbc_n (v : Nat) : (s.setDbc v).n = s.n := rfl
@[simp] theorem State.setDbc_d (v : Nat) : (s.setDbc v).d = s.d := rfl
@[simp] theorem State.setDbc_df (v : Nat) : (s.setDbc v).df = s.df := rfl
@[simp] theorem State.setDbc_ie (v : Nat) : (s.setDbc v).ie = s.ie := rfl
@[simp] theorem State.setDbc_q (v : Nat) : (s.setDbc v).q = s.q := rfl
@[simp] theorem State.setDbc_ef1 (v : Nat) : (s.setDbc v).ef1 = s.ef1 := rfl
@[simp] theorem State.setDbc_ef2 (v : Nat) : (s.setDbc v).ef2 = s.ef2 := rfl
@[simp] theorem State.setDbc_ef3 (v : Nat) : (s.setDbc v).ef3 = s.ef3 := rfl
@[simp] theorem State.setDbc_ef4 (v : Nat) : (s.setDbc v).ef4 = s.ef4 := rfl
@[simp] theorem State.setDbc_dbc (v : Nat) : (s.setDbc v).dbc = v := rfl
@[simp] theorem State.setDbc_mem (v : Nat) : (s.setDbc v).mem = s.mem := rfl
@[simp] theorem State.setDbc_mwe (v : Nat) : (s.setDbc v).mwe = s.mwe := rfl
@[simp] theorem State.setDbc_bus (v : Nat) : (s.setDbc v).bus = s.bus := rfl
@[simp] theorem State.setDbc_trace (v : Nat) : (s.setDbc v).trace = s.trace := rfl
@[simp] theorem State.setDbc_rs (v : Nat) : (s.setDbc v).rs = s.rs := rfl
@[simp] theorem State.setDbc_haddr (v : Nat) : (s.setDbc v).haddr = s.haddr := rfl
@[simp] theorem State.setDbc_cyc (v : Nat) : (s.setDbc v).cyc = s.cyc := rfl
@[simp] theorem State.setDbc_limit (v : Nat) : (s.setDbc v).limit = s.limit := rfl
@[simp] theorem State.setDbc_disp (v : Nat) : (s.setDbc v).disp = s.disp := rfl
@[simp] theorem State.setDbc_ports (v : Nat) : (s.setDbc v).ports = s.ports := rfl
@[simp] theorem State.setDbc_diag (v : Nat) : (s.setDbc v).diag = s.diag := rfl
@[simp] theorem State.setDbc_env (v : Nat) : (s.setDbc v).env = s.env := rfl
@[simp] theorem State.setDbc_params (v : Nat) : (s.setDbc v).params = s.params := rfl
@[simp] theorem State.setDbc_reg (v : Nat) (m : Nibble) : (s.setDbc v).reg m = s.reg m := rfl
@[simp] theorem State.setDbc_pc (v : Nat) : (s.setDbc v).pc = s.pc := rfl
@[simp] theorem State.setDbc_rx (v : Nat) : (s.setDbc v).rx = s.rx := rfl
@[simp] theorem State.setDbc_peek (v : Nat) (b : Word) : (s.setDbc v).peek b = s.peek b := rfl

/-! ### noteFetch -/

@[simp] theorem State.noteFetch_regs (a : Word) : (s.noteFetch a).regs = s.regs := rfl
@[simp] theorem State.noteFetch_p (a : Word) : (s.noteFetch a).p = s.p := rfl
@[simp] theorem State.noteFetch_x (a : Word) : (s.noteFetch a).x = s.x := rfl
@[simp] theorem State.noteFetch_n (a : Word) : (s.noteFetch a).n = s.n := rfl
@[simp] theorem State.noteFetch_d (a : Word) : (s.noteFetch a).d = s.d := rfl
@[simp] theorem State.noteFetch_df (a : Word) : (s.noteFetch a).df = s.df := rfl
@[simp] theorem State.noteFetch_ie (a : Word) : (s.noteFetch a).ie = s.ie := rfl
@[simp] theorem State.noteFetch_q (a : Word) : (s.noteFetch a).q = s.q := rfl
@[simp] theorem State.noteFetch_ef1 (a : Word) : (s.noteFetch a).ef1 = s.ef1 := rfl
@[simp] theorem State.noteFetch_ef2 (a : Word) : (s.noteFetch a).ef2 = s.ef2 := rfl
@[simp] theorem State.noteFetch_ef3 (a : Word) : (s.noteFetch a).ef3 = s.ef3 := rfl
@[simp] theorem State.noteFetch_ef4 (a : Word) : (s.noteFetch a).ef4 = s.ef4 := rfl
@[simp] theorem State.noteFetch_dbc (a : Word) : (s.noteFetch a).dbc = s.dbc := rfl
@[simp] theorem State.noteFetch_mem (a : Word) : (s.noteFetch a).mem = s.mem := rfl
@[simp] theorem State.noteFetch_mwe (a : Word) : (s.noteFetch a).mwe = s.mwe := rfl
@[simp] theorem State.noteFetch_bus (a : Word) : (s.noteFetch a).bus = s.bus := rfl
@[simp] theorem State.noteFetch_trace (a : Word) : (s.noteFetch a).trace = { s.trace with lastFetch := a } := rfl
@[simp] theorem State.noteFetch_rs (a : Word) : (s.noteFetch a).rs = s.rs := rfl
@[simp] theorem State.noteFetch_haddr (a : Word) : (s.noteFetch a).haddr = s.haddr := rfl
@[simp] theorem State.noteFetch_cyc (a : Word) : (s.noteFetch a).cyc = s.cyc := rfl
@[simp] theorem State.noteFetch_limit (a : Word) : (s.noteFetch a).limit = s.limit := rfl
@[simp] theorem State.noteFetch_disp (a : Word) : (s.noteFetch a).disp = s.disp := rfl
@[simp] theorem State.noteFetch_ports (a : Word) : (s.noteFetch a).ports = s.ports := rfl
@[simp] theorem State.noteFetch_diag (a : Word) : (s.noteFetch a).diag = s.diag := rfl
@[simp] theorem State.noteFetch_env (a : Word) : (s.noteFetch a).env = s.env := rfl
@[simp] theorem State.noteFetch_params (a : Word) : (s.noteFetch a).params = s.params := rfl
@[simp] theorem State.noteFetch_reg (a : Word) (m : Nibble) : (s.noteFetch a).reg m = s.reg m := rfl
@[simp] theorem State.noteFetch_pc (a : Word) : (s.noteFetch a).pc = s.pc := rfl
@[simp] theorem State.noteFetch_rx (a : Word) : (s.noteFetch a).rx = s.rx := rfl
@[simp] theorem State.noteFetch_peek (a : Word) (b : Word) : (s.noteFetch a).peek b = s.peek b := rfl

/-! ### latchN -/

@[simp] theorem State.latchN_regs (op : Byte) : (s.latchN op).regs = s.regs := rfl
@[simp] theorem State.latchN_p (op : Byte) : (s.latchN op).p = s.p := rfl
@[simp] theorem State.latchN_x (op : Byte) : (s.latchN op).x = s.x := rfl
@[simp] theorem State.latchN_n (op : Byte) : (s.latchN op).n = loNibble op := rfl
@[simp] theorem State.latchN_d (op : Byte) : (s.latchN op).d = s.d := rfl
@[simp] theorem State.latchN_df (op : Byte) : (s.latchN op).df = s.df := rfl
@[simp] theorem State.latchN_ie (op : Byte) : (s.latchN op).ie = s.ie := rfl
@[simp] theorem State.latchN_q (op : Byte) : (s.latchN op).q = s.q := rfl
@[simp] theorem State.latchN_ef1 (op : Byte) : (s.latchN op).ef1 = s.ef1 := rfl
@[simp] theorem State.latchN_ef2 (op : Byte) : (s.latchN op).ef2 = s.ef2 := rfl
@[simp] theorem State.latchN_ef3 (op : Byte) : (s.latchN op).ef3 = s.ef3 := rfl
@[simp] theorem State.latchN_ef4 (op : Byte) : (s.latchN op).ef4 = s.ef4 := rfl
@[simp] theorem State.latchN_dbc (op : Byte) : (s.latchN op).dbc = s.dbc := rfl
@[simp] theorem State.latchN_mem (op : Byte) : (s.latchN op).mem = s.mem := rfl
@[simp] theorem State.latchN_mwe (op : Byte) : (s.latchN op).mwe = s.mwe := rfl
@[simp] theorem State.latchN_bus (op : Byte) : (s.latchN op).bus = s.bus := rfl
@[simp] theorem State.latchN_trace (op : Byte) : (s.latchN op).trace = s.trace := rfl
@[simp] theorem State.latchN_rs (op : Byte) : (s.latchN op).rs = s.rs := rfl
@[simp] theorem State.latchN_haddr (op : Byte) : (s.latchN op).haddr = s.haddr := rfl
@[simp] theorem State.latchN_cyc (op : Byte) : (s.latchN op).cyc = s.cyc := rfl
@[simp] theorem State.latchN_limit (op : Byte) : (s.latchN op).limit = s.limit := rfl
@[simp] theorem State.latchN_disp (op : Byte) : (s.latchN op).disp = s.disp := rfl
@[simp] theorem State.latchN_ports (op : Byte) : (s.latchN op).ports = s.ports := rfl
@[simp] theorem State.latchN_diag (op : Byte) : (s.latchN op).diag = s.diag := rfl
@[simp] theorem State.latchN_env (op : Byte) : (s.latchN op).env = s.env := rfl
@[simp] theorem State.latchN_params (op : Byte) : (s.latchN op).params = s.params := rfl
@[simp] theorem State.latchN_reg (op : Byte) (m : Nibble) : (s.latchN op).reg m = s.reg m := rfl
@[simp] theorem State.latchN_pc (op : Byte) : (s.latchN op).pc = s.pc := rfl
@[simp] theorem State.latchN_rx (op : Byte) : (s.latchN op).rx = s.rx := rfl
@[simp] theorem State.latchN_peek (op : Byte) (b : Word) : (s.latchN op).peek b = s.peek b := rfl

/-! ### noteRead -/

@[simp] theorem State.noteRead_regs (a : Word) : (s.noteRead a).regs = s.regs := rfl
@[simp] theorem State.noteRead_p (a : Word) : (s.noteRead a).p = s.p := rfl
@[simp] theorem State.noteRead_x (a : Word) : (s.noteRead a).x = s.x := rfl
@[simp] theorem State.noteRead_n (a : Word) : (s.noteRead a).n = s.n := rfl
@[simp] theorem State.noteRead_d (a : Word) : (s.noteRead a).d = s.d := rfl
@[simp] theorem State.noteRead_df (a : Word) : (s.noteRead a).df = s.df := rfl
@[simp] theorem State.noteRead_ie (a : Word) : (s.noteRead a).ie = s.ie := rfl
@[simp] theorem State.noteRead_q (a : Word) : (s.noteRead a).q = s.q := rfl
@[simp] theorem State.noteRead_ef1 (a : Word) : (s.noteRead a).ef1 = s.ef1 := rfl
@[simp] theorem State.noteRead_ef2 (a : Word) : (s.noteRead a).ef2 = s.ef2 := rfl
@[simp] theorem State.noteRead_ef3 (a : Word) : (s.noteRead a).ef3 = s.ef3 := rfl
@[simp] theorem State.noteRead_ef4 (a : Word) : (s.noteRead a).ef4 = s.ef4 := rfl
@[simp] theorem State.noteRead_dbc (a : Word) : (s.noteRead a).dbc = s.dbc := rfl
@[simp] theorem State.noteRead_mem (a : Word) : (s.noteRead a).mem = s.mem := rfl
@[simp] theorem State.noteRead_mwe (a : Word) : (s.noteRead a).mwe = s.mwe := rfl
@[simp] theorem State.noteRead_bus (a : Word) : (s.noteRead a).bus = s.bus := rfl
@[simp] theorem State.noteRead_trace (a : Word) : (s.noteRead a).trace = { s.trace with lastRd := a } := rfl
@[simp] theorem State.noteRead_rs (a : Word) : (s.noteRead a).rs = s.rs := rfl
@[simp] theorem State.noteRead_haddr (a : Word) : (s.noteRead a).haddr = s.haddr := rfl
@[simp] theorem State.noteRead_cyc (a : Word) : (s.noteRead a).cyc = s.cyc := rfl
@[simp] theorem State.noteRead_limit (a : Word) : (s.noteRead a).limit = s.limit := rfl
@[simp] theorem State.noteRead_disp (a : Word) : (s.noteRead a).disp = s.disp := rfl
@[simp] theorem State.noteRead_ports (a : Word) : (s.noteRead a).ports = s.ports := rfl
@[simp] theorem State.noteRead_diag (a : Word) : (s.noteRead a).diag = s.diag := rfl
@[simp] theorem State.noteRead_env (a : Word) : (s.noteRead a).env = s.env := rfl
@[simp] theorem State.noteRead_params (a : Word) : (s.noteRead a).params = s.params := rfl
@[simp] theorem State.noteRead_reg (a : Word) (m : Nibble) : (s.noteRead a).reg m = s.reg m := rfl
@[simp] theorem State.noteRead_pc (a : Word) : (s.noteRead a).pc = s.pc := rfl
@[simp] theorem State.noteRead_rx (a : Word) : (s.noteRead a).rx = s.rx := rfl
@[simp] theorem State.noteRead_peek (a : Word) (b : Word) : (s.noteRead a).peek b = s.peek b := rfl

/-! ### memWrite -/

@[simp] theorem State.memWrite_regs (a : Word) (v : Byte) : (s.memWrite a v).regs = s.regs := rfl
@[simp] theorem State.memWrite_p (a : Word) (v : Byte) : (s.memWrite a v).p = s.p := rfl
@[simp] theorem State.memWrite_x (a : Word) (v : Byte) : (s.memWrite a v).x = s.x := rfl
@[simp] theorem State.memWrite_n (a : Word) (v : Byte) : (s.memWrite a v).n = s.n := rfl
@[simp] theorem State.memWrite_d (a : Word) (v : Byte) : (s.memWrite a v).d = s.d := rfl
@[simp] theorem State.memWrite_df (a : Word) (v : Byte) : (s.memWrite a v).df = s.df := rfl
@[simp] theorem State.memWrite_ie (a : Word) (v : Byte) : (s.memWrite a v).ie = s.ie := rfl
@[simp] theorem State.memWrite_q (a : Word) (v : Byte) : (s.memWrite a v).q = s.q := rfl
@[simp] theorem State.memWrite_ef1 (a : Word) (v : Byte) : (s.memWrite a v).ef1 = s.ef1 := rfl
@[simp] theorem State.memWrite_ef2 (a : Word) (v : Byte) : (s.memWrite a v).ef2 = s.ef2 := rfl
@[simp] theorem State.memWrite_ef3 (a : Word) (v : Byte) : (s.memWrite a v).ef3 = s.ef3 := rfl
@[simp] theorem State.memWrite_ef4 (a : Word) (v : Byte) : (s.memWrite a v).ef4 = s.ef4 := rfl
@[simp] theorem State.memWrite_dbc (a : Word) (v : Byte) : (s.memWrite a v).dbc = s.dbc := rfl
@[simp] theorem State.memWrite_mem (a : Word) (v : Byte) : (s.memWrite a v).mem = if a.toNat < s.params.cap.val && s.mwe then Memory.write s.mem a.toNat v else s.mem := rfl
@[simp] theorem State.memWrite_mwe (a : Word) (v : Byte) : (s.memWrite a v).mwe = s.mwe := rfl
@[simp] theorem State.memWrite_bus (a : Word) (v : Byte) : (s.memWrite a v).bus = s.bus := rfl
@[simp] theorem State.memWrite_trace (a : Word) (v : Byte) : (s.memWrite a v).trace = { s.trace with lastWr := a } := rfl
@[simp] theorem State.memWrite_rs (a : Word) (v : Byte) : (s.memWrite a v).rs = s.rs := rfl
@[simp] theorem State.memWrite_haddr (a : Word) (v : Byte) : (s.memWrite a v).haddr = s.haddr := rfl
@[simp] theorem State.memWrite_cyc (a : Word) (v : Byte) : (s.memWrite a v).cyc = s.cyc := rfl
@[simp] theorem State.memWrite_limit (a : Word) (v : Byte) : (s.memWrite a v).limit = s.limit := rfl
@[simp] theorem State.memWrite_disp (a : Word) (v : Byte) : (s.memWrite a v).disp = s.disp := rfl
@[simp] theorem State.memWrite_ports (a : Word) (v : Byte) : (s.memWrite a v).ports = s.ports := rfl
@[simp] theorem State.memWrite_diag (a : Word) (v : Byte) : (s.memWrite a v).diag = s.diag := rfl
@[simp] theorem State.memWrite_env (a : Word) (v : Byte) : (s.memWrite a v).env = s.env := rfl
@[simp] theorem State.memWrite_params (a : Word) (v : Byte) : (s.memWrite a v).params = s.params := rfl
@[simp] theorem State.memWrite_reg (a : Word) (v : Byte) (m : Nibble) : (s.memWrite a v).reg m = s.reg m := rfl
@[simp] theorem State.memWrite_pc (a : Word) (v : Byte) : (s.memWrite a v).pc = s.pc := rfl
@[simp] theorem State.memWrite_rx (a : Word) (v : Byte) : (s.memWrite a v).rx = s.rx := rfl

/-! ### addCycles -/

@[simp] theorem State.addCycles_regs (k : Nat) : (s.addCycles k).regs = s.regs := rfl
@[simp] theorem State.addCycles_p (k : Nat) : (s.addCycles k).p = s.p := rfl
@[simp] theorem State.addCycles_x (k : Nat) : (s.addCycles k).x = s.x := rfl
@[simp] theorem State.addCycles_n (k : Nat) : (s.addCycles k).n = s.n := rfl
@[simp] theorem State.addCycles_d (k : Nat) : (s.addCycles k).d = s.d := rfl
@[simp] theorem State.addCycles_df (k : Nat) : (s.addCycles k).df = s.df := rfl
@[simp] theorem State.addCycles_ie (k : Nat) : (s.addCycles k).ie = s.ie := rfl
@[simp] theorem State.addCycles_q (k : Nat) : (s.addCycles k).q = s.q := rfl
@[simp] theorem State.addCycles_ef1 (k : Nat) : (s.addCycles k).ef1 = s.ef1 := rfl
@[simp] theorem State.addCycles_ef2 (k : Nat) : (s.addCycles k).ef2 = s.ef2 := rfl
@[simp] theorem State.addCycles_ef3 (k : Nat) : (s.addCycles k).ef3 = s.ef3 := rfl
@[simp] theorem State.addCycles_ef4 (k : Nat) : (s.addCycles k).ef4 = s.ef4 := rfl
@[simp] theorem State.addCycles_dbc (k : Nat) : (s.addCycles k).dbc = s.dbc := rfl
@[simp] theorem State.addCycles_mem (k : Nat) : (s.addCycles k).mem = s.mem := rfl
@[simp] theorem State.addCycles_mwe (k : Nat) : (s.addCycles k).mwe = s.mwe := rfl
@[simp] theorem State.addCycles_bus (k : Nat) : (s.addCycles k).bus = s.bus := rfl
@[simp] theorem State.addCycles_trace (k : Nat) : (s.addCycles k).trace = s.trace := rfl
@[simp] theorem State.addCycles_rs (k : Nat) : (s.addCycles k).rs = s.rs := rfl
@[simp] theorem State.addCycles_haddr (k : Nat) : (s.addCycles k).haddr = s.haddr := rfl
@[simp] theorem State.addCycles_cyc (k : Nat) : (s.addCycles k).cyc = s.cyc + k := rfl
@[simp] theorem State.addCycles_limit (k : Nat) : (s.addCycles k).limit = s.limit := rfl
@[simp] theorem State.addCycles_disp (k : Nat) : (s.addCycles k).disp = s.disp := rfl
@[simp] theorem State.addCycles_ports (k : Nat) : (s.addCycles k).ports = s.ports := rfl
@[simp] theorem State.addCycles_diag (k : Nat) : (s.addCycles k).diag = s.diag := rfl
@[simp] theorem State.addCycles_env (k : Nat) : (s.addCycles k).env = s.env := rfl
@[simp] theorem State.addCycles_params (k : Nat) : (s.addCycles k).params = s.params := rfl
@[simp] theorem State.addCycles_reg (k : Nat) (m : Nibble) : (s.addCycles k).reg m = s.reg m := rfl
@[simp] theorem State.addCycles_pc (k : Nat) : (s.addCycles k).pc = s.pc := rfl
@[simp] theorem State.addCycles_rx (k : Nat) : (s.addCycles k).rx = s.rx := rfl
@[simp] theorem State.addCycles_peek (k : Nat) (b : Word) : (s.addCycles k).peek b = s.peek b := rfl

/-! ### setRs -/

@[simp] theorem State.setRs_regs (r : RunState) : (s.setRs r).regs = s.regs := rfl
@[simp] theorem State.setRs_p (r : RunState) : (s.setRs r).p = s.p := rfl
@[simp] theorem State.setRs_x (r : RunState) : (s.setRs r).x = s.x := rfl
@[simp] theorem State.setRs_n (r : RunState) : (s.setRs r).n = s.n := rfl
@[simp] theorem State.setRs_d (r : RunState) : (s.setRs r).d = s.d := rfl
@[simp] theorem State.setRs_df (r : RunState) : (s.setRs r).df = s.df := rfl
@[simp] theorem State.setRs_ie (r : RunState) : (s.setRs r).ie = s.ie := rfl
@[simp] theorem State.setRs_q (r : RunState) : (s.setRs r).q = s.q := rfl
@[simp] theorem State.setRs_ef1 (r : RunState) : (s.setRs r).ef1 = s.ef1 := rfl
@[simp] theorem State.setRs_ef2 (r : RunState) : (s.setRs r).ef2 = s.ef2 := rfl
@[simp] theorem State.setRs_ef3 (r : RunState) : (s.setRs r).ef3 = s.ef3 := rfl
@[simp] theorem State.setRs_ef4 (r : RunState) : (s.setRs r).ef4 = s.ef4 := rfl
@[simp] theorem State.setRs_dbc (r : RunState) : (s.setRs r).dbc = s.dbc := rfl
@[simp] theorem State.setRs_mem (r : RunState) : (s.setRs r).mem = s.mem := rfl
@[simp] theorem State.setRs_mwe (r : RunState) : (s.setRs r).mwe = s.mwe := rfl
@[simp] theorem State.setRs_bus (r : RunState) : (s.setRs r).bus = s.bus := rfl
@[simp] theorem State.setRs_trace (r : RunState) : (s.setRs r).trace = s.trace := rfl
@[simp] theorem State.setRs_rs (r : RunState) : (s.setRs r).rs = r := rfl
@[simp] theorem State.setRs_haddr (r : RunState) : (s.setRs r).haddr = s.haddr := rfl
@[simp] theorem State.setRs_cyc (r : RunState) : (s.setRs r).cyc = s.cyc := rfl
@[simp] theorem State.setRs_limit (r : RunState) : (s.setRs r).limit = s.limit := rfl
@[simp] theorem State.setRs_disp (r : RunState) : (s.setRs r).disp = s.disp := rfl
@[simp] theorem State.setRs_ports (r : RunState) : (s.setRs r).ports = s.ports := rfl
@[simp] theorem State.setRs_diag (r : RunState) : (s.setRs r).diag = s.diag := rfl
@[simp] theorem State.setRs_env (r : RunState) : (s.setRs r).env = s.env := rfl
@[simp] theorem State.setRs_params (r : RunState) : (s.setRs r).params = s.params := rfl
@[simp] theorem State.setRs_reg (r : RunState) (m : Nibble) : (s.setRs r).reg m = s.reg m := rfl
@[simp] theorem State.setRs_pc (r : RunState) : (s.setRs r).pc = s.pc := rfl
@[simp] theorem State.setRs_rx (r : RunState) : (s.setRs r).rx = s.rx := rfl
@[simp] theorem State.setRs_peek (r : RunState) (b : Word) : (s.setRs r).peek b = s.peek b := rfl

/-! ### setHaddr -/

@[simp] theorem State.setHaddr_regs (a : Word) : (s.setHaddr a).regs = s.regs := rfl
@[simp] theorem State.setHaddr_p (a : Word) : (s.setHaddr a).p = s.p := rfl
@[simp] theorem State.setHaddr_x (a : Word) : (s.setHaddr a).x = s.x := rfl
@[simp] theorem State.setHaddr_n (a : Word) : (s.setHaddr a).n = s.n := rfl
@[simp] theorem State.setHaddr_d (a : Word) : (s.setHaddr a).d = s.d := rfl
@[simp] theorem State.setHaddr_df (a : Word) : (s.setHaddr a).df = s.df := rfl
@[simp] theorem State.setHaddr_ie (a : Word) : (s.setHaddr a).ie = s.ie := rfl
@[simp] theorem State.setHaddr_q (a : Word) : (s.setHaddr a).q = s.q := rfl
@[simp] theorem State.setHaddr_ef1 (a : Word) : (s.setHaddr a).ef1 = s.ef1 := rfl
@[simp] theorem State.setHaddr_ef2 (a : Word) : (s.setHaddr a).ef2 = s.ef2 := rfl
@[simp] theorem State.setHaddr_ef3 (a : Word) : (s.setHaddr a).ef3 = s.ef3 := rfl
@[simp] theorem State.setHaddr_ef4 (a : Word) : (s.setHaddr a).ef4 = s.ef4 := rfl
@[simp] theorem State.setHaddr_dbc (a : Word) : (s.setHaddr a).dbc = s.dbc := rfl
@[simp] theorem State.setHaddr_mem (a : Word) : (s.setHaddr a).mem = s.mem := rfl
@[simp] theorem State.setHaddr_mwe (a : Word) : (s.setHaddr a).mwe = s.mwe := rfl
@[simp] theorem State.setHaddr_bus (a : Word) : (s.setHaddr a).bus = s.bus := rfl
@[simp] theorem State.setHaddr_trace (a : Word) : (s.setHaddr a).trace = s.trace := rfl
@[simp] theorem State.setHaddr_rs (a : Word) : (s.setHaddr a).rs = s.rs := rfl
@[simp] theorem State.setHaddr_haddr (a : Word) : (s.setHaddr a).haddr = a := rfl
@[simp] theorem State.setHaddr_cyc (a : Word) : (s.setHaddr a).cyc = s.cyc := rfl
@[simp] theorem State.setHaddr_limit (a : Word) : (s.setHaddr a).limit = s.limit := rfl
@[simp] theorem State.setHaddr_disp (a : Word) : (s.setHaddr a).disp = s.disp := rfl
@[simp] theorem State.setHaddr_ports (a : Word) : (s.setHaddr a).ports = s.ports := rfl
@[simp] theorem State.setHaddr_diag (a : Word) : (s.setHaddr a).diag = s.diag := rfl
@[simp] theorem State.setHaddr_env (a : Word) : (s.setHaddr a).env = s.env := rfl
@[simp] theorem State.setHaddr_params (a : Word) : (s.setHaddr a).params = s.params := rfl
@[simp] theorem State.setHaddr_reg (a : Word) (m : Nibble) : (s.setHaddr a).reg m = s.reg m := rfl
@[simp] theorem State.setHaddr_pc (a : Word) : (s.setHaddr a).pc = s.pc := rfl
@[simp] theorem State.setHaddr_rx (a : Word) : (s.setHaddr a).rx = s.rx := rfl
@[simp] theorem State.setHaddr_peek (a : Word) (b : Word) : (s.setHaddr a).peek b = s.peek b := rfl

/-! ### portOut -/

@[simp] theorem State.portOut_regs (p : Port) (v : Byte) : (s.portOut p v).regs = s.regs := rfl
@[simp] theorem State.portOut_p (p : Port) (v : Byte) : (s.portOut p v).p = s.p := rfl
@[simp] theorem State.portOut_x (p : Port) (v : Byte) : (s.portOut p v).x = s.x := rfl
@[simp] theorem State.portOut_n (p : Port) (v : Byte) : (s.portOut p v).n = s.n := rfl
@[simp] theorem State.portOut_d (p : Port) (v : Byte) : (s.portOut p v).d = s.d := rfl
@[simp] theorem State.portOut_df (p : Port) (v : Byte) : (s.portOut p v).df = s.df := rfl
@[simp] theorem State.portOut_ie (p : Port) (v : Byte) : (s.portOut p v).ie = s.ie := rfl
@[simp] theorem State.portOut_q (p : Port) (v : Byte) : (s.portOut p v).q = s.q := rfl
@[simp] theorem State.portOut_ef1 (p : Port) (v : Byte) : (s.portOut p v).ef1 = s.ef1 := rfl
@[simp] theorem State.portOut_ef2 (p : Port) (v : Byte) : (s.portOut p v).ef2 = s.ef2 := rfl
@[simp] theorem State.portOut_ef3 (p : Port) (v : Byte) : (s.portOut p v).ef3 = s.ef3 := rfl
@[simp] theorem State.portOut_ef4 (p : Port) (v : Byte) : (s.portOut p v).ef4 = s.ef4 := rfl
@[simp] theorem State.portOut_dbc (p : Port) (v : Byte) : (s.portOut p v).dbc = s.dbc := rfl
@[simp] theorem State.portOut_mem (p : Port) (v : Byte) : (s.portOut p v).mem = s.mem := rfl
@[simp] theorem State.portOut_mwe (p : Port) (v : Byte) : (s.portOut p v).mwe = s.mwe := rfl
@[simp] theorem State.portOut_bus (p : Port) (v : Byte) : (s.portOut p v).bus = s.bus := rfl
@[simp] theorem State.portOut_trace (p : Port) (v : Byte) : (s.portOut p v).trace = s.trace := rfl
@[simp] theorem State.portOut_rs (p : Port) (v : Byte) : (s.portOut p v).rs = s.rs := rfl
@[simp] theorem State.portOut_haddr (p : Port) (v : Byte) : (s.portOut p v).haddr = s.haddr := rfl
@[simp] theorem State.portOut_cyc (p : Port) (v : Byte) : (s.portOut p v).cyc = s.cyc := rfl
@[simp] theorem State.portOut_limit (p : Port) (v : Byte) : (s.portOut p v).limit = s.limit := rfl
@[simp] theorem State.portOut_disp (p : Port) (v : Byte) : (s.portOut p v).disp = s.disp := rfl
@[simp] theorem State.portOut_diag (p : Port) (v : Byte) : (s.portOut p v).diag = s.diag := rfl
@[simp] theorem State.portOut_env (p : Port) (v : Byte) : (s.portOut p v).env = s.env := rfl
@[simp] theorem State.portOut_params (p : Port) (v : Byte) : (s.portOut p v).params = s.params := rfl
@[simp] theorem State.portOut_reg (p : Port) (v : Byte) (m : Nibble) : (s.portOut p v).reg m = s.reg m := rfl
@[simp] theorem State.portOut_pc (p : Port) (v : Byte) : (s.portOut p v).pc = s.pc := rfl
@[simp] theorem State.portOut_rx (p : Port) (v : Byte) : (s.portOut p v).rx = s.rx := rfl
@[simp] theorem State.portOut_peek (p : Port) (v : Byte) (b : Word) : (s.portOut p v).peek b = s.peek b := rfl
@[simp] theorem State.portOut_outDevs (p : Port) (v : Byte) : (s.portOut p v).ports.outDevs = s.ports.outDevs := rfl
@[simp] theorem State.portOut_inDevs (p : Port) (v : Byte) : (s.portOut p v).ports.inDevs = s.ports.inDevs := rfl
@[simp] theorem State.portOut_outHist (p : Port) (v : Byte) :
    (s.portOut p v).ports.outHist = s.ports.outHist ++ [{ port := p, byte := v }] := rfl
@[simp] theorem State.portOut_presented (p : Port) (v : Byte) :
    (s.portOut p v).ports.presented = s.ports.presented ++
      (s.ports.outDevs[p.toNat]'(p.isLt)).map (fun dev => { port := p, device := dev, byte := v }) := rfl

/-! ### raiseDisp -/

@[simp] theorem State.raiseDisp_regs : s.raiseDisp.regs = s.regs := rfl
@[simp] theorem State.raiseDisp_p : s.raiseDisp.p = s.p := rfl
@[simp] theorem State.raiseDisp_x : s.raiseDisp.x = s.x := rfl
@[simp] theorem State.raiseDisp_n : s.raiseDisp.n = s.n := rfl
@[simp] theorem State.raiseDisp_d : s.raiseDisp.d = s.d := rfl
@[simp] theorem State.raiseDisp_df : s.raiseDisp.df = s.df := rfl
@[simp] theorem State.raiseDisp_ie : s.raiseDisp.ie = s.ie := rfl
@[simp] theorem State.raiseDisp_q : s.raiseDisp.q = s.q := rfl
@[simp] theorem State.raiseDisp_ef1 : s.raiseDisp.ef1 = s.ef1 := rfl
@[simp] theorem State.raiseDisp_ef2 : s.raiseDisp.ef2 = s.ef2 := rfl
@[simp] theorem State.raiseDisp_ef3 : s.raiseDisp.ef3 = s.ef3 := rfl
@[simp] theorem State.raiseDisp_ef4 : s.raiseDisp.ef4 = s.ef4 := rfl
@[simp] theorem State.raiseDisp_dbc : s.raiseDisp.dbc = s.dbc := rfl
@[simp] theorem State.raiseDisp_mem : s.raiseDisp.mem = s.mem := rfl
@[simp] theorem State.raiseDisp_mwe : s.raiseDisp.mwe = s.mwe := rfl
@[simp] theorem State.raiseDisp_bus : s.raiseDisp.bus = s.bus := rfl
@[simp] theorem State.raiseDisp_trace : s.raiseDisp.trace = s.trace := rfl
@[simp] theorem State.raiseDisp_rs : s.raiseDisp.rs = s.rs := rfl
@[simp] theorem State.raiseDisp_haddr : s.raiseDisp.haddr = s.haddr := rfl
@[simp] theorem State.raiseDisp_cyc : s.raiseDisp.cyc = s.cyc := rfl
@[simp] theorem State.raiseDisp_limit : s.raiseDisp.limit = s.limit := rfl
@[simp] theorem State.raiseDisp_disp : s.raiseDisp.disp = true := rfl
@[simp] theorem State.raiseDisp_ports : s.raiseDisp.ports = s.ports := rfl
@[simp] theorem State.raiseDisp_diag : s.raiseDisp.diag = s.diag := rfl
@[simp] theorem State.raiseDisp_env : s.raiseDisp.env = s.env := rfl
@[simp] theorem State.raiseDisp_params : s.raiseDisp.params = s.params := rfl
@[simp] theorem State.raiseDisp_reg (m : Nibble) : s.raiseDisp.reg m = s.reg m := rfl
@[simp] theorem State.raiseDisp_pc : s.raiseDisp.pc = s.pc := rfl
@[simp] theorem State.raiseDisp_rx : s.raiseDisp.rx = s.rx := rfl
@[simp] theorem State.raiseDisp_peek (b : Word) : s.raiseDisp.peek b = s.peek b := rfl

/-! ### portInAsked -/

@[simp] theorem State.portInAsked_regs (p : Port) : (s.portInAsked p).regs = s.regs := rfl
@[simp] theorem State.portInAsked_p (p : Port) : (s.portInAsked p).p = s.p := rfl
@[simp] theorem State.portInAsked_x (p : Port) : (s.portInAsked p).x = s.x := rfl
@[simp] theorem State.portInAsked_n (p : Port) : (s.portInAsked p).n = s.n := rfl
@[simp] theorem State.portInAsked_d (p : Port) : (s.portInAsked p).d = s.d := rfl
@[simp] theorem State.portInAsked_df (p : Port) : (s.portInAsked p).df = s.df := rfl
@[simp] theorem State.portInAsked_ie (p : Port) : (s.portInAsked p).ie = s.ie := rfl
@[simp] theorem State.portInAsked_q (p : Port) : (s.portInAsked p).q = s.q := rfl
@[simp] theorem State.portInAsked_ef1 (p : Port) : (s.portInAsked p).ef1 = s.ef1 := rfl
@[simp] theorem State.portInAsked_ef2 (p : Port) : (s.portInAsked p).ef2 = s.ef2 := rfl
@[simp] theorem State.portInAsked_ef3 (p : Port) : (s.portInAsked p).ef3 = s.ef3 := rfl
@[simp] theorem State.portInAsked_ef4 (p : Port) : (s.portInAsked p).ef4 = s.ef4 := rfl
@[simp] theorem State.portInAsked_dbc (p : Port) : (s.portInAsked p).dbc = s.dbc := rfl
@[simp] theorem State.portInAsked_mem (p : Port) : (s.portInAsked p).mem = s.mem := rfl
@[simp] theorem State.portInAsked_mwe (p : Port) : (s.portInAsked p).mwe = s.mwe := rfl
@[simp] theorem State.portInAsked_bus (p : Port) : (s.portInAsked p).bus = s.bus := rfl
@[simp] theorem State.portInAsked_trace (p : Port) : (s.portInAsked p).trace = s.trace := rfl
@[simp] theorem State.portInAsked_rs (p : Port) : (s.portInAsked p).rs = s.rs := rfl
@[simp] theorem State.portInAsked_haddr (p : Port) : (s.portInAsked p).haddr = s.haddr := rfl
@[simp] theorem State.portInAsked_cyc (p : Port) : (s.portInAsked p).cyc = s.cyc := rfl
@[simp] theorem State.portInAsked_limit (p : Port) : (s.portInAsked p).limit = s.limit := rfl
@[simp] theorem State.portInAsked_disp (p : Port) : (s.portInAsked p).disp = s.disp := rfl
@[simp] theorem State.portInAsked_diag (p : Port) : (s.portInAsked p).diag = s.diag := rfl
@[simp] theorem State.portInAsked_env (p : Port) : (s.portInAsked p).env = s.env := rfl
@[simp] theorem State.portInAsked_params (p : Port) : (s.portInAsked p).params = s.params := rfl
@[simp] theorem State.portInAsked_reg (p : Port) (m : Nibble) : (s.portInAsked p).reg m = s.reg m := rfl
@[simp] theorem State.portInAsked_pc (p : Port) : (s.portInAsked p).pc = s.pc := rfl
@[simp] theorem State.portInAsked_rx (p : Port) : (s.portInAsked p).rx = s.rx := rfl
@[simp] theorem State.portInAsked_peek (p : Port) (b : Word) : (s.portInAsked p).peek b = s.peek b := rfl
@[simp] theorem State.portInAsked_outDevs (p : Port) : (s.portInAsked p).ports.outDevs = s.ports.outDevs := rfl
@[simp] theorem State.portInAsked_outHist (p : Port) : (s.portInAsked p).ports.outHist = s.ports.outHist := rfl
@[simp] theorem State.portInAsked_presented (p : Port) : (s.portInAsked p).ports.presented = s.ports.presented := rfl
@[simp] theorem State.portInAsked_inDevs (p : Port) :
    (s.portInAsked p).ports.inDevs =
      s.ports.inDevs.set p.toNat ((s.ports.inDevs[p.toNat]'(p.isLt)).map InDevice.afterAsk) p.isLt := rfl

/-! ### warn -/

@[simp] theorem State.warn_regs (op : Byte) (a : Word) : (s.warn op a).regs = s.regs := rfl
@[simp] theorem State.warn_p (op : Byte) (a : Word) : (s.warn op a).p = s.p := rfl
@[simp] theorem State.warn_x (op : Byte) (a : Word) : (s.warn op a).x = s.x := rfl
@[simp] theorem State.warn_n (op : Byte) (a : Word) : (s.warn op a).n = s.n := rfl
@[simp] theorem State.warn_d (op : Byte) (a : Word) : (s.warn op a).d = s.d := rfl
@[simp] theorem State.warn_df (op : Byte) (a : Word) : (s.warn op a).df = s.df := rfl
@[simp] theorem State.warn_ie (op : Byte) (a : Word) : (s.warn op a).ie = s.ie := rfl
@[simp] theorem State.warn_q (op : Byte) (a : Word) : (s.warn op a).q = s.q := rfl
@[simp] theorem State.warn_ef1 (op : Byte) (a : Word) : (s.warn op a).ef1 = s.ef1 := rfl
@[simp] theorem State.warn_ef2 (op : Byte) (a : Word) : (s.warn op a).ef2 = s.ef2 := rfl
@[simp] theorem State.warn_ef3 (op : Byte) (a : Word) : (s.warn op a).ef3 = s.ef3 := rfl
@[simp] theorem State.warn_ef4 (op : Byte) (a : Word) : (s.warn op a).ef4 = s.ef4 := rfl
@[simp] theorem State.warn_dbc (op : Byte) (a : Word) : (s.warn op a).dbc = s.dbc := rfl
@[simp] theorem State.warn_mem (op : Byte) (a : Word) : (s.warn op a).mem = s.mem := rfl
@[simp] theorem State.warn_mwe (op : Byte) (a : Word) : (s.warn op a).mwe = s.mwe := rfl
@[simp] theorem State.warn_bus (op : Byte) (a : Word) : (s.warn op a).bus = s.bus := rfl
@[simp] theorem State.warn_trace (op : Byte) (a : Word) : (s.warn op a).trace = s.trace := rfl
@[simp] theorem State.warn_rs (op : Byte) (a : Word) : (s.warn op a).rs = s.rs := rfl
@[simp] theorem State.warn_haddr (op : Byte) (a : Word) : (s.warn op a).haddr = s.haddr := rfl
@[simp] theorem State.warn_cyc (op : Byte) (a : Word) : (s.warn op a).cyc = s.cyc := rfl
@[simp] theorem State.warn_limit (op : Byte) (a : Word) : (s.warn op a).limit = s.limit := rfl
@[simp] theorem State.warn_disp (op : Byte) (a : Word) : (s.warn op a).disp = s.disp := rfl
@[simp] theorem State.warn_ports (op : Byte) (a : Word) : (s.warn op a).ports = s.ports := rfl
@[simp] theorem State.warn_diag (op : Byte) (a : Word) : (s.warn op a).diag = s.diag ++ [{ op := op, addr := a }] := rfl
@[simp] theorem State.warn_env (op : Byte) (a : Word) : (s.warn op a).env = s.env := rfl
@[simp] theorem State.warn_params (op : Byte) (a : Word) : (s.warn op a).params = s.params := rfl
@[simp] theorem State.warn_reg (op : Byte) (a : Word) (m : Nibble) : (s.warn op a).reg m = s.reg m := rfl
@[simp] theorem State.warn_pc (op : Byte) (a : Word) : (s.warn op a).pc = s.pc := rfl
@[simp] theorem State.warn_rx (op : Byte) (a : Word) : (s.warn op a).rx = s.rx := rfl
@[simp] theorem State.warn_peek (op : Byte) (a : Word) (b : Word) : (s.warn op a).peek b = s.peek b := rfl

/-! ### Composed operations -/

@[simp] theorem State.setPc_eq (t : Word) : s.setPc t = s.setReg s.p t := rfl
@[simp] theorem State.incReg_eq (n : Nibble) : s.incReg n = s.setReg n (s.reg n + 1) := rfl
@[simp] theorem State.decReg_eq (n : Nibble) : s.decReg n = s.setReg n (s.reg n - 1) := rfl
@[simp] theorem State.passOpcode_eq (op : Byte) : s.passOpcode op = (s.setReg s.p (s.pc + 1)).latchN op := rfl
@[simp] theorem State.takeImm_eq : s.takeImm = (s.noteRead s.pc).setReg s.p (s.pc + 1) := rfl
@[simp] theorem State.loadFrom_eq (n : Nibble) : s.loadFrom n = (s.noteRead (s.reg n)).setD (s.peek (s.reg n)) := rfl
@[simp] theorem State.setAlu_eq (r : Byte × Bool) : s.setAlu r = (s.setDF r.2).setD r.1 := rfl

/-- Reading a register after writing one. -/
theorem State.reg_setReg (n m : Nibble) (v : Word) :
    (s.setReg n v).reg m = if n = m then v else s.reg m := by
  simp [State.setReg, State.reg, Vector.getElem_set, BitVec.toNat_inj]

@[simp] theorem State.reg_setReg_same (n : Nibble) (v : Word) : (s.setReg n v).reg n = v := by
  simp [State.reg_setReg]

theorem State.reg_setReg_other (n m : Nibble) (v : Word) (h : m ≠ n) : (s.setReg n v).reg m = s.reg m := by
  simp [State.reg_setReg, Ne.symm h]

/-- The program counter after a register write. -/
theorem State.pc_setReg (n : Nibble) (v : Word) : (s.setReg n v).pc = if n = s.p then v else s.pc :=
  State.reg_setReg s n s.p v

/-- The pointer register after a register write. -/
theorem State.rx_setReg (n : Nibble) (v : Word) : (s.setReg n v).rx = if n = s.x then v else s.rx :=
  State.reg_setReg s n s.x v

end Sys2Proof.Machine
end

