-- ==== Sys2Proof/Laws/Memory.lean ====
section
/-! SUPPORT. The laws of the memory list: a read after a write, and the canonical form kept by every memory operation. -/

namespace Sys2Proof.Machine

/-! ### Reading after writing -/

theorem Memory.read_insert (m : Memory) (a : Nat) (v : Byte) (b : Nat) :
    (m.insert a v).read b = if a = b then v else m.read b := by
  induction m with
  | nil => simp [Memory.insert, Memory.read]
  | cons c m ih =>
    obtain ⟨e, w⟩ := c
    simp only [Memory.insert]
    split
    · simp [Memory.read]
    · split
      · subst_vars
        by_cases h : e = b <;> simp [Memory.read, h]
      · by_cases h : e = b
        · subst h
          simp [Memory.read, *]
        · simp [Memory.read, h, ih]

theorem Memory.read_filter (m : Memory) (a b : Nat) :
    Memory.read (m.filter (fun c => c.1 != a)) b = if a = b then unwrittenByte else m.read b := by
  induction m with
  | nil => simp [Memory.read]
  | cons c m ih =>
    obtain ⟨e, w⟩ := c
    by_cases he : e = a
    · subst he
      simp only [bne_self_eq_false, Bool.false_eq_true, not_false_eq_true, List.filter_cons_of_neg, ih, Memory.read]
      split <;> rfl
    · have hk : (e != a) = true := by simpa using he
      by_cases h : e = b
      · subst h
        simp [hk, Memory.read, Ne.symm he]
      · simp [hk, Memory.read, h, ih]

/-- A read after a write gives the byte written at that address and what was there elsewhere. -/
theorem Memory.read_write (m : Memory) (a : Nat) (v : Byte) (b : Nat) :
    (m.write a v).read b = if a = b then v else m.read b := by
  unfold Memory.write
  split
  · rw [Memory.read_filter]; simp_all
  · exact Memory.read_insert m a v b

/-! ### The canonical form -/

theorem Memory.wfFrom_mono {lo lo' : Nat} {m : Memory} (h : lo' ≤ lo) (hm : Memory.wfFrom lo m = true) :
    Memory.wfFrom lo' m = true := by
  cases m with
  | nil => rfl
  | cons c m =>
    simp only [Memory.wfFrom, Bool.and_eq_true, decide_eq_true_eq] at hm ⊢
    exact ⟨⟨by omega, hm.1.2⟩, hm.2⟩

theorem Memory.wfFrom_filter {lo : Nat} {m : Memory} (f : Host.Cell → Bool) (hm : Memory.wfFrom lo m = true) :
    Memory.wfFrom lo (m.filter f) = true := by
  induction m generalizing lo with
  | nil => rfl
  | cons c m ih =>
    simp only [Memory.wfFrom, Bool.and_eq_true, decide_eq_true_eq] at hm
    rw [List.filter_cons]
    split
    · simp only [Memory.wfFrom, Bool.and_eq_true, decide_eq_true_eq]
      exact ⟨hm.1, ih hm.2⟩
    · exact Memory.wfFrom_mono (by omega) (ih hm.2)

theorem Memory.wfFrom_insert {lo : Nat} {m : Memory} {a : Nat} {v : Byte} (hv : v ≠ unwrittenByte) (ha : lo ≤ a)
    (hm : Memory.wfFrom lo m = true) : Memory.wfFrom lo (m.insert a v) = true := by
  induction m generalizing lo with
  | nil => simp [Memory.insert, Memory.wfFrom, ha, hv]
  | cons c m ih =>
    obtain ⟨e, w⟩ := c
    simp only [Memory.wfFrom, Bool.and_eq_true, decide_eq_true_eq] at hm
    simp only [Memory.insert]
    split
    · simp only [Memory.wfFrom, Bool.and_eq_true, decide_eq_true_eq]
      exact ⟨⟨ha, by simpa using hv⟩, ⟨by omega, hm.1.2⟩, hm.2⟩
    · split
      · subst_vars
        simp only [Memory.wfFrom, Bool.and_eq_true, decide_eq_true_eq]
        exact ⟨⟨ha, by simpa using hv⟩, hm.2⟩
      · simp only [Memory.wfFrom, Bool.and_eq_true, decide_eq_true_eq]
        exact ⟨hm.1, ih (by omega) hm.2⟩

/-- Storing a byte keeps the canonical form. -/
theorem Memory.wf_write {m : Memory} (a : Nat) (v : Byte) (hm : m.wf = true) : (m.write a v).wf = true := by
  unfold Memory.write Memory.wf
  split
  · exact Memory.wfFrom_filter _ hm
  · exact Memory.wfFrom_insert ‹_› (Nat.zero_le _) hm

/-- Storing a byte lists no address but the one stored to. -/
theorem Memory.mem_write {m : Memory} {a : Nat} {v : Byte} {c : Host.Cell} (h : c ∈ m.write a v) : c ∈ m ∨ c.1 = a := by
  have key : ∀ m : Memory, c ∈ m.insert a v → c ∈ m ∨ c.1 = a := by
    intro m
    induction m with
    | nil => intro h; right; simp only [Memory.insert, List.mem_singleton] at h; rw [h]
    | cons e m ih =>
      obtain ⟨b, w⟩ := e
      intro h
      simp only [Memory.insert] at h
      split at h
      · rcases List.mem_cons.mp h with h | h
        · right; rw [h]
        · exact .inl h
      · split at h
        · rcases List.mem_cons.mp h with h | h
          · right; rw [h]
          · exact .inl (List.mem_cons_of_mem _ h)
        · rcases List.mem_cons.mp h with h | h
          · exact .inl (h ▸ List.mem_cons_self)
          · exact (ih h).imp (List.mem_cons_of_mem _) id
  unfold Memory.write at h
  split at h
  · exact .inl (List.mem_filter.mp h).1
  · exact key m h

/-- The memory after reset is canonical. -/
theorem Memory.wf_reset : Memory.wf State.reset.mem = true := rfl

/-! ### The operations of State -/

/-- A read after an instruction's store (R38, R39): the byte stored, if the store was performed. -/
theorem State.peek_memWrite (s : State) (a : Word) (v : Byte) (b : Word) :
    (s.memWrite a v).peek b = if a = b ∧ a.toNat < s.params.cap.val ∧ s.mwe = true then v else s.peek b := by
  by_cases hw : a.toNat < s.params.cap.val ∧ s.mwe = true
  · by_cases hab : a = b
    · subst hab
      simp [State.peek, State.memWrite, hw.1, hw.2, Memory.read_write]
    · have : a.toNat ≠ b.toNat := fun h => hab (BitVec.eq_of_toNat_eq h)
      simp [State.peek, State.memWrite, hw.1, hw.2, Memory.read_write, hab, this]
  · have hf : (decide (a.toNat < s.params.cap.val) && s.mwe) = false := by
      simpa only [Bool.and_eq_false_iff, decide_eq_false_iff_not, not_and_or, Bool.not_eq_true] using hw
    rw [if_neg (fun h => hw h.2)]
    simp [State.peek, State.memWrite, hf]

/-- An instruction's store keeps the canonical form. -/
theorem State.wf_memWrite (s : State) (a : Word) (v : Byte) (h : s.mem.wf = true) : (s.memWrite a v).mem.wf = true := by
  simp only [State.memWrite_mem]
  split
  · exact Memory.wf_write _ _ h
  · exact h

/-- A host write keeps the canonical form. -/
theorem State.wf_hostWrite (s : State) (a v : Nat) (h : s.mem.wf = true) : (s.hostWrite a v).mem.wf = true := by
  simp only [State.hostWrite]
  split
  · exact Memory.wf_write _ _ h
  · exact h

/-- Clearing memory keeps the canonical form. -/
theorem State.wf_clearMemory (s : State) : s.clearMemory.mem.wf = true := rfl

/-- Placing bytes keeps the canonical form. -/
theorem State.wf_placeBytes (s : State) (a : Word) (bs : List Byte) (h : s.mem.wf = true) :
    (s.placeBytes a bs).mem.wf = true := by
  induction bs generalizing s a with
  | nil => exact h
  | cons b bs ih =>
    simp only [State.placeBytes]
    apply ih
    split
    · exact Memory.wf_write _ _ h
    · exact h

end Sys2Proof.Machine
end

