-- ==== Sys2Proof/Laws/Ops.lean ====
section
/-! SUPPORT. For each shared operation one lemma that says once everything it can do, for citing instead of unfolding. -/

namespace Sys2Proof.Machine

/-! ### Operand forms and branches -/

theorem logicMem_spec {f : Byte → Byte → Byte} {s t : State} (h : logicMem f s = .next t) :
    t = (s.noteRead s.rx).setD (f (s.peek s.rx) s.d) := by cases h; rfl

theorem logicImm_spec {f : Byte → Byte → Byte} {m : Byte} {s t : State} (h : logicImm f m s = .next t) :
    t = ((s.noteRead s.pc).setPc (s.pc + 1)).setD (f m s.d) := by cases h; rfl

theorem arithMem_spec {f : Byte → Byte → Bool → Nat} {s t : State} (h : arithMem f s = .next t) :
    t = ((s.noteRead s.rx).setDF (decide (f (s.peek s.rx) s.d s.df > 255))).setD
      (BitVec.ofNat 8 (f (s.peek s.rx) s.d s.df)) := by cases h; rfl

theorem arithImm_spec {f : Byte → Byte → Bool → Nat} {m : Byte} {s t : State} (h : arithImm f m s = .next t) :
    t = (((s.noteRead s.pc).setPc (s.pc + 1)).setDF (decide (f m s.d s.df > 255))).setD
      (BitVec.ofNat 8 (f m s.d s.df)) := by cases h; rfl

theorem shortBranch_spec {c : Bool} {a : Byte} {s t : State} (h : shortBranch c a s = .next t) :
    (c = true ∧ t = (s.noteRead s.pc).setPc (joinBytes (hiByte s.pc) a)) ∨ (c = false ∧ t = s.setPc (s.pc + 1)) := by
  cases c
  · exact .inr ⟨rfl, by cases h; rfl⟩
  · exact .inl ⟨rfl, by cases h; rfl⟩

theorem longBranch_spec {c : Bool} {w : Word} {s t : State} (h : longBranch c w s = .next t) :
    (c = true ∧ t = ((s.noteRead s.pc).noteRead (s.pc + 1)).setPc w) ∨ (c = false ∧ t = s.setPc (s.pc + 2)) := by
  cases c
  · exact .inr ⟨rfl, by cases h; rfl⟩
  · exact .inl ⟨rfl, by cases h; rfl⟩

theorem longSkip_spec {c : Bool} {s t : State} (h : longSkip c s = .next t) :
    (c = true ∧ t = s.setPc (s.pc + 2)) ∨ (c = false ∧ t = s) := by
  cases c
  · exact .inr ⟨rfl, by cases h; rfl⟩
  · exact .inl ⟨rfl, by cases h; rfl⟩

/-- A branch or a skip always gives a next state. -/
theorem shortBranch_next (c : Bool) (a : Byte) (s : State) : ∃ t, shortBranch c a s = .next t := by
  cases c <;> exact ⟨_, rfl⟩

theorem longBranch_next (c : Bool) (w : Word) (s : State) : ∃ t, longBranch c w s = .next t := by
  cases c <;> exact ⟨_, rfl⟩

theorem longSkip_next (c : Bool) (s : State) : ∃ t, longSkip c s = .next t := by
  cases c <;> exact ⟨_, rfl⟩

/-- The return: the new selects from the byte read, one register incremented, `IE` set or cleared, the read traced. -/
theorem returnFrom_eq (s : State) (ie : Bool) :
    s.returnFrom ie =
      (((((s.noteRead s.rx).setX (hiNibble (s.peek s.rx))).setP (loNibble (s.peek s.rx))).setReg
        (s.returnInc (s.peek s.rx)) (s.reg (s.returnInc (s.peek s.rx)) + 1)).setIE ie) := rfl

/-! ### Input devices -/

theorem askAll_cons_value (v : Byte) (dev : InDevice) (devs : List InDevice) (r : Nat) (h : dev.answer = some r) :
    askAll v (dev :: devs) = askAll (BitVec.ofNat 8 r) devs := by simp [askAll, h]

theorem askAll_cons_none (v : Byte) (dev : InDevice) (devs : List InDevice) (h : dev.answer = none) :
    askAll v (dev :: devs) = askAll v devs := by simp [askAll, h]

@[simp] theorem InDevice.afterAsk_name (dev : InDevice) : dev.afterAsk.name = dev.name := rfl

@[simp] theorem InDevice.afterAsk_asked (dev : InDevice) : dev.afterAsk.asked = dev.asked + 1 := rfl

/-! ### The step -/

theorem finish_next {op : Byte} {r : Answer} {t : State} (h : finish op r = .next t) :
    ∃ u, r = .next u ∧ t = if op = 0x00 then u else u.addCycles (cost op) := by
  cases r with
  | next u => exact ⟨u, rfl, by cases h; rfl⟩
  | fault e => cases h
  | refused e => cases h

/-- All that the fetch phase does: `LAST_FETCH`, `N`, and the program counter but for the halt byte. -/
theorem fetched_eq (s : State) (op : Byte) :
    s.fetched op =
      if op ≠ 0x00 then ((s.noteFetch s.pc).setReg s.p (s.pc + 1)).latchN op
      else if s.params.haltLatchesN then (s.noteFetch s.pc).latchN op
      else s.noteFetch s.pc := by
  by_cases h : op = 0x00
  · rw [if_neg (not_not.mpr h), State.fetched, if_pos h]; rfl
  · rw [if_pos h, State.fetched, if_neg h]; rfl

/-- The opcode byte of the instruction at `pc` is the byte at `pc`. -/
@[simp] theorem opcode_fetchInstr (s : State) : opcode s.fetchInstr = s.peek s.pc := opcode_decodeOp _ _ _

theorem wellFormed_fetchInstr (s : State) : s.fetchInstr.wellFormed = true := wellFormed_decodeOp _ _ _

/-- What a step can do in a run, when it answers a next state. -/
theorem step_running {s t : State} (hr : s.rs = .running) (h : step s = .next t) :
    (s.disp = true ∧ t = s.setRs .yielded) ∨
    (s.disp = false ∧ s.limit ≤ (s.cyc : Int) ∧ t = s.setRs .exhausted) ∨
    (s.disp = false ∧ (s.cyc : Int) < s.limit ∧ ∃ u, exec s.fetchInstr (s.fetched (s.peek s.pc)) = .next u ∧
      t = if s.peek s.pc = 0x00 then u else u.addCycles (cost (s.peek s.pc))) := by
  simp only [step, machineStep, hr, runTurn] at h
  split at h
  · rename_i hd; cases h; exact .inl ⟨hd, rfl⟩
  · rename_i hd
    rw [Bool.not_eq_true] at hd
    split at h
    · rename_i hl; cases h; exact .inr (.inl ⟨hd, hl, rfl⟩)
    · rename_i hl
      obtain ⟨u, hu, rfl⟩ := finish_next h
      exact .inr (.inr ⟨hd, by omega, u, hu, rfl⟩)

/-- A step that fetches runs one instruction. -/
theorem step_fetches {s : State} (h : s.fetches) : step s = runInstr s := by
  obtain ⟨hr, hd, hl⟩ := h
  simp [step, machineStep, hr, runTurn, hd, not_le.mpr hl]

/-- What a step does while no run is in progress. -/
theorem step_not_running {s : State} (hr : s.rs ≠ .running) : step s = .next s.betweenRuns := by
  cases h : s.rs <;> simp_all [step, machineStep]

theorem betweenRuns_nil {s : State} (h : s.env.pending = []) : s.betweenRuns = s := by
  simp [State.betweenRuns, h]

theorem betweenRuns_cons {s : State} {op : HostOp} {later : List HostOp} (h : s.env.pending = op :: later) :
    s.betweenRuns = State.hostOp { s with env := { s.env with pending := later } } op := by
  simp [State.betweenRuns, h]

end Sys2Proof.Machine
end

