-- ==== Sys2Proof/Laws/PerInstr.lean ====
section
/-! SUPPORT. The laws that hold of every instruction as syntax, one lemma per constructor. -/

namespace Sys2Proof.Laws.EncodingShape

/-- An instruction's encoding has the length that its opcode byte fixes (R54, R56). -/
def Statement (i : Instr) : Prop := (encode i).length = instrLength (opcode i)

theorem idl : Statement .idl := by
  simp only [Statement, encode, operandBytes, opcode, List.length_cons, List.length_nil]; decide

theorem ldn (n : Nibble) : Statement (.ldn n) := by revert n; unfold Statement; exact of_decide_eq_true rfl

theorem inc (n : Nibble) : Statement (.inc n) := by revert n; unfold Statement; exact of_decide_eq_true rfl

theorem dec (n : Nibble) : Statement (.dec n) := by revert n; unfold Statement; exact of_decide_eq_true rfl

theorem br (a : Byte) : Statement (.br a) := by
  simp only [Statement, encode, operandBytes, opcode, List.length_cons, List.length_nil]; decide

theorem bq (a : Byte) : Statement (.bq a) := by
  simp only [Statement, encode, operandBytes, opcode, List.length_cons, List.length_nil]; decide

theorem bz (a : Byte) : Statement (.bz a) := by
  simp only [Statement, encode, operandBytes, opcode, List.length_cons, List.length_nil]; decide

theorem bdf (a : Byte) : Statement (.bdf a) := by
  simp only [Statement, encode, operandBytes, opcode, List.length_cons, List.length_nil]; decide

theorem b1 (a : Byte) : Statement (.b1 a) := by
  simp only [Statement, encode, operandBytes, opcode, List.length_cons, List.length_nil]; decide

theorem b2 (a : Byte) : Statement (.b2 a) := by
  simp only [Statement, encode, operandBytes, opcode, List.length_cons, List.length_nil]; decide

theorem b3 (a : Byte) : Statement (.b3 a) := by
  simp only [Statement, encode, operandBytes, opcode, List.length_cons, List.length_nil]; decide

theorem b4 (a : Byte) : Statement (.b4 a) := by
  simp only [Statement, encode, operandBytes, opcode, List.length_cons, List.length_nil]; decide

theorem nbr (a : Byte) : Statement (.nbr a) := by
  simp only [Statement, encode, operandBytes, opcode, List.length_cons, List.length_nil]; decide

theorem bnq (a : Byte) : Statement (.bnq a) := by
  simp only [Statement, encode, operandBytes, opcode, List.length_cons, List.length_nil]; decide

theorem bnz (a : Byte) : Statement (.bnz a) := by
  simp only [Statement, encode, operandBytes, opcode, List.length_cons, List.length_nil]; decide

theorem bnf (a : Byte) : Statement (.bnf a) := by
  simp only [Statement, encode, operandBytes, opcode, List.length_cons, List.length_nil]; decide

theorem bn1 (a : Byte) : Statement (.bn1 a) := by
  simp only [Statement, encode, operandBytes, opcode, List.length_cons, List.length_nil]; decide

theorem bn2 (a : Byte) : Statement (.bn2 a) := by
  simp only [Statement, encode, operandBytes, opcode, List.length_cons, List.length_nil]; decide

theorem bn3 (a : Byte) : Statement (.bn3 a) := by
  simp only [Statement, encode, operandBytes, opcode, List.length_cons, List.length_nil]; decide

theorem bn4 (a : Byte) : Statement (.bn4 a) := by
  simp only [Statement, encode, operandBytes, opcode, List.length_cons, List.length_nil]; decide

theorem lda (n : Nibble) : Statement (.lda n) := by revert n; unfold Statement; exact of_decide_eq_true rfl

theorem str (n : Nibble) : Statement (.str n) := by revert n; unfold Statement; exact of_decide_eq_true rfl

theorem irx : Statement .irx := by
  simp only [Statement, encode, operandBytes, opcode, List.length_cons, List.length_nil]; decide

theorem out (p : Port) : Statement (.out p) := by revert p; unfold Statement; exact of_decide_eq_true rfl

theorem reserved68 : Statement .reserved68 := by
  simp only [Statement, encode, operandBytes, opcode, List.length_cons, List.length_nil]; decide

theorem inp (p : Port) : Statement (.inp p) := by revert p; unfold Statement; exact of_decide_eq_true rfl

theorem ret : Statement .ret := by
  simp only [Statement, encode, operandBytes, opcode, List.length_cons, List.length_nil]; decide

theorem dis : Statement .dis := by
  simp only [Statement, encode, operandBytes, opcode, List.length_cons, List.length_nil]; decide

theorem ldxa : Statement .ldxa := by
  simp only [Statement, encode, operandBytes, opcode, List.length_cons, List.length_nil]; decide

theorem stxd : Statement .stxd := by
  simp only [Statement, encode, operandBytes, opcode, List.length_cons, List.length_nil]; decide

theorem adc : Statement .adc := by
  simp only [Statement, encode, operandBytes, opcode, List.length_cons, List.length_nil]; decide

theorem sdb : Statement .sdb := by
  simp only [Statement, encode, operandBytes, opcode, List.length_cons, List.length_nil]; decide

theorem shrc : Statement .shrc := by
  simp only [Statement, encode, operandBytes, opcode, List.length_cons, List.length_nil]; decide

theorem smb : Statement .smb := by
  simp only [Statement, encode, operandBytes, opcode, List.length_cons, List.length_nil]; decide

theorem sav : Statement .sav := by
  simp only [Statement, encode, operandBytes, opcode, List.length_cons, List.length_nil]; decide

theorem mark : Statement .mark := by
  simp only [Statement, encode, operandBytes, opcode, List.length_cons, List.length_nil]; decide

theorem req : Statement .req := by
  simp only [Statement, encode, operandBytes, opcode, List.length_cons, List.length_nil]; decide

theorem seq : Statement .seq := by
  simp only [Statement, encode, operandBytes, opcode, List.length_cons, List.length_nil]; decide

theorem adci (k : Byte) : Statement (.adci k) := by
  simp only [Statement, encode, operandBytes, opcode, List.length_cons, List.length_nil]; decide

theorem sdbi (k : Byte) : Statement (.sdbi k) := by
  simp only [Statement, encode, operandBytes, opcode, List.length_cons, List.length_nil]; decide

theorem shlc : Statement .shlc := by
  simp only [Statement, encode, operandBytes, opcode, List.length_cons, List.length_nil]; decide

theorem smbi (k : Byte) : Statement (.smbi k) := by
  simp only [Statement, encode, operandBytes, opcode, List.length_cons, List.length_nil]; decide

theorem glo (n : Nibble) : Statement (.glo n) := by revert n; unfold Statement; exact of_decide_eq_true rfl

theorem ghi (n : Nibble) : Statement (.ghi n) := by revert n; unfold Statement; exact of_decide_eq_true rfl

theorem plo (n : Nibble) : Statement (.plo n) := by revert n; unfold Statement; exact of_decide_eq_true rfl

theorem phi (n : Nibble) : Statement (.phi n) := by revert n; unfold Statement; exact of_decide_eq_true rfl

theorem lbr (t : Word) : Statement (.lbr t) := by
  simp only [Statement, encode, operandBytes, opcode, List.length_cons, List.length_nil]; decide

theorem lbq (t : Word) : Statement (.lbq t) := by
  simp only [Statement, encode, operandBytes, opcode, List.length_cons, List.length_nil]; decide

theorem lbz (t : Word) : Statement (.lbz t) := by
  simp only [Statement, encode, operandBytes, opcode, List.length_cons, List.length_nil]; decide

theorem lbdf (t : Word) : Statement (.lbdf t) := by
  simp only [Statement, encode, operandBytes, opcode, List.length_cons, List.length_nil]; decide

theorem nop : Statement .nop := by
  simp only [Statement, encode, operandBytes, opcode, List.length_cons, List.length_nil]; decide

theorem lsnq : Statement .lsnq := by
  simp only [Statement, encode, operandBytes, opcode, List.length_cons, List.length_nil]; decide

theorem lsnz : Statement .lsnz := by
  simp only [Statement, encode, operandBytes, opcode, List.length_cons, List.length_nil]; decide

theorem lsnf : Statement .lsnf := by
  simp only [Statement, encode, operandBytes, opcode, List.length_cons, List.length_nil]; decide

theorem nlbr (t : Word) : Statement (.nlbr t) := by
  simp only [Statement, encode, operandBytes, opcode, List.length_cons, List.length_nil]; decide

theorem lbnq (t : Word) : Statement (.lbnq t) := by
  simp only [Statement, encode, operandBytes, opcode, List.length_cons, List.length_nil]; decide

theorem lbnz (t : Word) : Statement (.lbnz t) := by
  simp only [Statement, encode, operandBytes, opcode, List.length_cons, List.length_nil]; decide

theorem lbnf (t : Word) : Statement (.lbnf t) := by
  simp only [Statement, encode, operandBytes, opcode, List.length_cons, List.length_nil]; decide

theorem lsie : Statement .lsie := by
  simp only [Statement, encode, operandBytes, opcode, List.length_cons, List.length_nil]; decide

theorem lsq : Statement .lsq := by
  simp only [Statement, encode, operandBytes, opcode, List.length_cons, List.length_nil]; decide

theorem lsz : Statement .lsz := by
  simp only [Statement, encode, operandBytes, opcode, List.length_cons, List.length_nil]; decide

theorem lsdf : Statement .lsdf := by
  simp only [Statement, encode, operandBytes, opcode, List.length_cons, List.length_nil]; decide

theorem sep (n : Nibble) : Statement (.sep n) := by revert n; unfold Statement; exact of_decide_eq_true rfl

theorem sex (n : Nibble) : Statement (.sex n) := by revert n; unfold Statement; exact of_decide_eq_true rfl

theorem ldx : Statement .ldx := by
  simp only [Statement, encode, operandBytes, opcode, List.length_cons, List.length_nil]; decide

theorem or : Statement .or := by
  simp only [Statement, encode, operandBytes, opcode, List.length_cons, List.length_nil]; decide

theorem and : Statement .and := by
  simp only [Statement, encode, operandBytes, opcode, List.length_cons, List.length_nil]; decide

theorem xor : Statement .xor := by
  simp only [Statement, encode, operandBytes, opcode, List.length_cons, List.length_nil]; decide

theorem add : Statement .add := by
  simp only [Statement, encode, operandBytes, opcode, List.length_cons, List.length_nil]; decide

theorem sd : Statement .sd := by
  simp only [Statement, encode, operandBytes, opcode, List.length_cons, List.length_nil]; decide

theorem shr : Statement .shr := by
  simp only [Statement, encode, operandBytes, opcode, List.length_cons, List.length_nil]; decide

theorem sm : Statement .sm := by
  simp only [Statement, encode, operandBytes, opcode, List.length_cons, List.length_nil]; decide

theorem ldi (k : Byte) : Statement (.ldi k) := by
  simp only [Statement, encode, operandBytes, opcode, List.length_cons, List.length_nil]; decide

theorem ori (k : Byte) : Statement (.ori k) := by
  simp only [Statement, encode, operandBytes, opcode, List.length_cons, List.length_nil]; decide

theorem ani (k : Byte) : Statement (.ani k) := by
  simp only [Statement, encode, operandBytes, opcode, List.length_cons, List.length_nil]; decide

theorem xri (k : Byte) : Statement (.xri k) := by
  simp only [Statement, encode, operandBytes, opcode, List.length_cons, List.length_nil]; decide

theorem adi (k : Byte) : Statement (.adi k) := by
  simp only [Statement, encode, operandBytes, opcode, List.length_cons, List.length_nil]; decide

theorem sdi (k : Byte) : Statement (.sdi k) := by
  simp only [Statement, encode, operandBytes, opcode, List.length_cons, List.length_nil]; decide

theorem shl : Statement .shl := by
  simp only [Statement, encode, operandBytes, opcode, List.length_cons, List.length_nil]; decide

theorem smi (k : Byte) : Statement (.smi k) := by
  simp only [Statement, encode, operandBytes, opcode, List.length_cons, List.length_nil]; decide

end Sys2Proof.Laws.EncodingShape
end

