-- ==== Sys2Proof/Tests/Slice0.lean ====
section
/-! SUPPORT. Our own tests, as named theorems. Expected results: the vectors of `spec/95_test_vectors.md`, whose section is
named, or the encodings of `spec/30_encoding.md` written out bit by bit. At the end a witness for every statement with
hypotheses. -/

namespace Sys2Proof.Tests

open Sys2Proof Sys2Proof.Machine

/-! ### Helpers -/

/-- One step with `bytes` placed at `a` and the program counter there; what is read off the state after it. -/
def ranAt {α : Type} (a : Word) (bytes : List Byte) (s : State) (f : State → α) : Option α :=
  match step ((s.setPc a).placeBytes a bytes).readyToFetch with
  | .next t => some (f t)
  | .fault _ => none
  | .refused _ => none

/-- `X = 2`, `R[2] = 0x0300`, `M[0x0300] = m`, and the `D` and `DF` given. -/
def ptr (m d : Byte) (df : Bool) : State :=
  (((State.reset.setReg 2 0x0300).setX 2).hostWrite 0x0300 m.toNat).setAlu (d, df)

/-- A machine with 32768 bytes of memory. -/
def small : State := { State.reset with params := { Config.Params.default with cap := 0x8000 } }

/-- The instruction a whole list of bytes is decoded to. -/
def whole (bytes : List Byte) : Option Instr :=
  match decode bytes with
  | .ok (i, []) => some i
  | .ok (_, _ :: _) => none
  | .error _ => none

/-! ### Well-formedness: each check refuses an ill-formed term (R58) -/

theorem test_wf_ldn : (Instr.ldn 0).wellFormed = false ∧ (Instr.ldn 1).wellFormed = true := by decide
theorem test_wf_out : (Instr.out 0).wellFormed = false ∧ (Instr.out 7).wellFormed = true := by decide
theorem test_wf_inp : (Instr.inp 0).wellFormed = false ∧ (Instr.inp 1).wellFormed = true := by decide

/-! ### Decoding: one word for every constructor, from the formats of R55 and the map of R58 -/

theorem test_decode_row0_1_2 : whole [0b00000000] = some .idl ∧ whole [0b00001010] = some (.ldn 10) ∧
    whole [0b00011111] = some (.inc 15) ∧ whole [0b00100001] = some (.dec 1) := by decide
theorem test_decode_row3_low : whole [0b00110000, 0x40] = some (.br 0x40) ∧ whole [0b00110001, 1] = some (.bq 1) ∧
    whole [0b00110010, 2] = some (.bz 2) ∧ whole [0b00110011, 3] = some (.bdf 3) ∧ whole [0b00110100, 4] = some (.b1 4) ∧
    whole [0b00110101, 5] = some (.b2 5) ∧ whole [0b00110110, 6] = some (.b3 6) ∧ whole [0b00110111, 7] = some (.b4 7) := by
  decide
theorem test_decode_row3_high : whole [0b00111000, 0xFF] = some (.nbr 0xFF) ∧ whole [0b00111001, 1] = some (.bnq 1) ∧
    whole [0b00111010, 2] = some (.bnz 2) ∧ whole [0b00111011, 3] = some (.bnf 3) ∧
    whole [0b00111100, 4] = some (.bn1 4) ∧ whole [0b00111101, 5] = some (.bn2 5) ∧
    whole [0b00111110, 6] = some (.bn3 6) ∧ whole [0b00111111, 7] = some (.bn4 7) := by decide
theorem test_decode_row4_5_6 : whole [0b01000111] = some (.lda 7) ∧ whole [0b01011000] = some (.str 8) ∧
    whole [0b01100000] = some .irx ∧ whole [0b01100111] = some (.out 7) ∧ whole [0b01101000] = some .reserved68 ∧
    whole [0b01101001] = some (.inp 1) := by decide
theorem test_decode_row7 : whole [0b01110000] = some .ret ∧ whole [0b01110001] = some .dis ∧
    whole [0b01110010] = some .ldxa ∧ whole [0b01110011] = some .stxd ∧ whole [0b01110100] = some .adc ∧
    whole [0b01110101] = some .sdb ∧ whole [0b01110110] = some .shrc ∧ whole [0b01110111] = some .smb ∧
    whole [0b01111000] = some .sav ∧ whole [0b01111001] = some .mark ∧ whole [0b01111010] = some .req ∧
    whole [0b01111011] = some .seq ∧ whole [0b01111100, 9] = some (.adci 9) ∧ whole [0b01111101, 9] = some (.sdbi 9) ∧
    whole [0b01111110] = some .shlc ∧ whole [0b01111111, 9] = some (.smbi 9) := by decide
theorem test_decode_row8_to_B : whole [0b10000101] = some (.glo 5) ∧ whole [0b10010101] = some (.ghi 5) ∧
    whole [0b10100110] = some (.plo 6) ∧ whole [0b10110110] = some (.phi 6) := by decide
theorem test_decode_rowC : whole [0b11000000, 0x12, 0x34] = some (.lbr 0x1234) ∧
    whole [0b11000001, 0x12, 0x34] = some (.lbq 0x1234) ∧ whole [0b11000010, 0x12, 0x34] = some (.lbz 0x1234) ∧
    whole [0b11000011, 0x12, 0x34] = some (.lbdf 0x1234) ∧ whole [0b11000100] = some .nop ∧
    whole [0b11000101] = some .lsnq ∧ whole [0b11000110] = some .lsnz ∧ whole [0b11000111] = some .lsnf ∧
    whole [0b11001000, 0x12, 0x34] = some (.nlbr 0x1234) ∧ whole [0b11001001, 0x12, 0x34] = some (.lbnq 0x1234) ∧
    whole [0b11001010, 0x12, 0x34] = some (.lbnz 0x1234) ∧ whole [0b11001011, 0x12, 0x34] = some (.lbnf 0x1234) ∧
    whole [0b11001100] = some .lsie ∧ whole [0b11001101] = some .lsq ∧ whole [0b11001110] = some .lsz ∧
    whole [0b11001111] = some .lsdf := by decide
theorem test_decode_rowD_E : whole [0b11010100] = some (.sep 4) ∧ whole [0b11100010] = some (.sex 2) := by decide
theorem test_decode_rowF : whole [0b11110000] = some .ldx ∧ whole [0b11110001] = some .or ∧
    whole [0b11110010] = some .and ∧ whole [0b11110011] = some .xor ∧ whole [0b11110100] = some .add ∧
    whole [0b11110101] = some .sd ∧ whole [0b11110110] = some .shr ∧ whole [0b11110111] = some .sm ∧
    whole [0b11111000, 9] = some (.ldi 9) ∧ whole [0b11111001, 9] = some (.ori 9) ∧
    whole [0b11111010, 9] = some (.ani 9) ∧ whole [0b11111011, 9] = some (.xri 9) ∧
    whole [0b11111100, 9] = some (.adi 9) ∧ whole [0b11111101, 9] = some (.sdi 9) ∧ whole [0b11111110] = some .shl ∧
    whole [0b11111111, 9] = some (.smi 9) := by decide

/-- A table word: bit 0 is the opcode byte's, the second byte is bits 15..8, and what `nbits` leaves out is 0. -/
theorem test_decode_table_word : decodeTableWord 8 0x68 = some .reserved68 ∧ decodeTableWord 16 0x0BF8 = some (.ldi 0x0B) ∧
    decodeTableWord 24 0x3412C0 = some (.lbr 0x1234) ∧ decodeTableWord 8 0x30 = some (.br 0) := by decide
theorem test_decode_truncated : decode [] = .error .noByte ∧ decode [0xF8] = .error (.truncated 0xF8) ∧
    decode [0xC0, 0x12] = .error (.truncated 0xC0) := ⟨rfl, rfl, rfl⟩

/-! ### Memory -/

theorem test_memory_write_keeps_order : Memory.write (Memory.write (Memory.write [] 5 1) 3 2) 4 7 = [(3, 2), (4, 7), (5, 1)] := by
  decide
theorem test_memory_write_default_removes : Memory.write [(3, 2), (5, 1)] 5 0 = [(3, 2)] := by decide
theorem test_memory_wf : Memory.wf [(3, 2), (5, 1)] = true ∧ Memory.wf [(5, 1), (3, 2)] = false ∧
    Memory.wf [(3, 0)] = false ∧ Memory.wf [(3, 1), (3, 2)] = false := by decide

/-! ### Register transfer (95 §2.1, §1.3) -/

theorem test_inc : ranAt 0x10 [0x13] (State.reset.setReg 3 0xFFFF) (fun t => (t.reg 3, t.pc, t.cyc)) = some (0, 0x11, 2) ∧
    ranAt 0x100 [0x10] State.reset (·.pc) = some 0x102 := by decide
theorem test_dec : ranAt 0x10 [0x24] State.reset (·.reg 4) = some 0xFFFF ∧ ranAt 0x10 [0x20] State.reset (·.pc) = some 0x10 := by
  decide
theorem test_irx : ranAt 0x10 [0x60] (ptr 0 0 false) (·.reg 2) = some 0x301 ∧
    ranAt 0x10 [0x60] State.reset (·.pc) = some 0x12 := by decide
theorem test_glo : ranAt 0x10 [0x85] (State.reset.setReg 5 0xABCD) (·.d) = some 0xCD ∧
    ranAt 0x1FF [0x80] State.reset (·.d) = some 0x00 := by decide
theorem test_ghi : ranAt 0x10 [0x95] (State.reset.setReg 5 0xABCD) (·.d) = some 0xAB ∧
    ranAt 0x1FF [0x90] State.reset (·.d) = some 0x02 := by decide
theorem test_plo : ranAt 0x10 [0xA6] ((State.reset.setReg 6 0x12FF).setD 0x34) (·.reg 6) = some 0x1234 ∧
    ranAt 0x1FF [0xA0] (State.reset.setD 0x40) (·.pc) = some 0x240 := by decide
theorem test_phi : ranAt 0x10 [0xB6] ((State.reset.setReg 6 0xFF34).setD 0x12) (·.reg 6) = some 0x1234 ∧
    ranAt 0x123 [0xB0] (State.reset.setD 0x02) (·.pc) = some 0x224 := by decide

/-! ### Loads and stores (95 §2.2) -/

theorem test_ldn : ranAt 0 [0x02] (ptr 0x5A 0 false) (fun t => (t.d, t.reg 2)) = some (0x5A, 0x300) ∧
    ranAt 0 [0x07] (small.setReg 7 0x8000) (·.d) = some 0xFF := by decide
theorem test_lda : ranAt 0 [0x42] (ptr 0x5A 0 false) (fun t => (t.d, t.reg 2)) = some (0x5A, 0x301) ∧
    ranAt 0 [0x40, 0x77] State.reset (fun t => (t.d, t.pc)) = some (0x77, 2) := by decide
theorem test_ldx : ranAt 0 [0xF0] (ptr 0x11 0 false) (fun t => (t.d, t.reg 2)) = some (0x11, 0x300) := by decide
theorem test_ldxa : ranAt 0 [0x72] (ptr 0x11 0 false) (fun t => (t.d, t.reg 2)) = some (0x11, 0x301) ∧
    ranAt 0x10 [0x72, 0x33] State.reset (fun t => (t.d, t.pc)) = some (0x33, 0x12) := by decide
theorem test_ldi : ranAt 0 [0xF8, 0x05] State.reset (fun t => (t.d, t.pc)) = some (0x05, 2) ∧
    ranAt 0xFFFF [0xF8, 0x9C] State.reset (fun t => (t.d, t.pc)) = some (0x9C, 1) := by decide
theorem test_str : ranAt 0 [0x58] ((State.reset.setReg 8 0x400).setD 0x7E) (·.peek 0x400) = some 0x7E ∧
    ranAt 0 [0x52] { ptr 0x33 0x7E false with mwe := false } (fun t => (t.peek 0x300, t.pc)) = some (0x33, 1) := by decide
theorem test_stxd : ranAt 0x10 [0x73] ((State.reset.setX 2).setD 0x99) (fun t => (t.peek 0, t.reg 2)) = some (0x99, 0xFFFF) ∧
    ranAt 0x10 [0x73] { ptr 0x11 0x99 false with mwe := false } (fun t => (t.peek 0x300, t.reg 2)) = some (0x11, 0x2FF) := by
  decide

/-! ### Logic and shifts (95 §2.3, §2.4) -/

theorem test_or : ranAt 0 [0xF1] (ptr 0x0F 0x3C true) (fun t => (t.d, t.df)) = some (0x3F, true) := by decide
theorem test_and : ranAt 0 [0xF2] (ptr 0x0F 0x3C true) (fun t => (t.d, t.df)) = some (0x0C, true) := by decide
theorem test_xor : ranAt 0 [0xF3] (ptr 0x0F 0x3C true) (fun t => (t.d, t.df)) = some (0x33, true) := by decide
theorem test_ori : ranAt 0x100 [0xF9, 0x0F] (ptr 0 0xA7 true) (fun t => (t.d, t.df, t.pc)) = some (0xAF, true, 0x102) := by decide
theorem test_ani : ranAt 0x100 [0xFA, 0x0F] (ptr 0 0xA7 true) (fun t => (t.d, t.df, t.pc)) = some (0x07, true, 0x102) := by decide
theorem test_xri : ranAt 0x100 [0xFB, 0x0F] (ptr 0 0xA7 true) (fun t => (t.d, t.df, t.pc)) = some (0xA8, true, 0x102) := by decide
theorem test_shr : ranAt 0 [0xF6] (ptr 0 0x83 true) (fun t => (t.d, t.df)) = some (0x41, true) ∧
    ranAt 0 [0xF6] (ptr 0 0x80 true) (fun t => (t.d, t.df)) = some (0x40, false) := by decide
theorem test_shrc : ranAt 0 [0x76] (ptr 0 0x83 true) (fun t => (t.d, t.df)) = some (0xC1, true) ∧
    ranAt 0 [0x76] (ptr 0 0x80 false) (fun t => (t.d, t.df)) = some (0x40, false) := by decide
theorem test_shl : ranAt 0 [0xFE] (ptr 0 0x83 true) (fun t => (t.d, t.df)) = some (0x06, true) ∧
    ranAt 0 [0xFE] (ptr 0 0x01 true) (fun t => (t.d, t.df)) = some (0x02, false) := by decide
theorem test_shlc : ranAt 0 [0x7E] (ptr 0 0xC1 true) (fun t => (t.d, t.df)) = some (0x83, true) ∧
    ranAt 0 [0x7E] (ptr 0 0x01 false) (fun t => (t.d, t.df)) = some (0x02, false) := by decide

/-! ### Arithmetic (95 §2.5) -/

theorem test_add : ranAt 0 [0xF4] (ptr 0x01 0xFF true) (fun t => (t.d, t.df)) = some (0x00, true) ∧
    ranAt 0 [0xF4] (ptr 0x48 0x3A true) (fun t => (t.d, t.df)) = some (0x82, false) := by decide
theorem test_adi : ranAt 0 [0xFC, 0x01] (ptr 0 0xFF true) (fun t => (t.d, t.df, t.pc)) = some (0x00, true, 2) := by decide
theorem test_adc : ranAt 0 [0x74] (ptr 0xFF 0x00 true) (fun t => (t.d, t.df)) = some (0x00, true) ∧
    ranAt 0 [0x74] (ptr 0xFF 0x00 false) (fun t => (t.d, t.df)) = some (0xFF, false) := by decide
theorem test_adci : ranAt 0 [0x7C, 0x34] (ptr 0 0x12 true) (fun t => (t.d, t.df, t.pc)) = some (0x47, false, 2) := by decide
theorem test_sd : ranAt 0 [0xF5] (ptr 0x48 0x3A false) (fun t => (t.d, t.df)) = some (0x0E, true) ∧
    ranAt 0 [0xF5] (ptr 0x20 0x50 true) (fun t => (t.d, t.df)) = some (0xD0, false) := by decide
theorem test_sdi : ranAt 0 [0xFD, 0x20] (ptr 0 0x50 true) (fun t => (t.d, t.df)) = some (0xD0, false) := by decide
theorem test_sdb : ranAt 0 [0x75] (ptr 0x00 0x00 false) (fun t => (t.d, t.df)) = some (0xFF, false) ∧
    ranAt 0 [0x75] (ptr 0x48 0x3A false) (fun t => (t.d, t.df)) = some (0x0D, true) := by decide
theorem test_sdbi : ranAt 0 [0x7D, 0x34] (ptr 0 0x12 false) (fun t => (t.d, t.df)) = some (0x21, true) := by decide
theorem test_sm : ranAt 0 [0xF7] (ptr 0x20 0x50 false) (fun t => (t.d, t.df)) = some (0x30, true) ∧
    ranAt 0 [0xF7] (ptr 0x50 0x20 true) (fun t => (t.d, t.df)) = some (0xD0, false) := by decide
theorem test_smi : ranAt 0 [0xFF, 0x34] (ptr 0 0x12 true) (fun t => (t.d, t.df)) = some (0xDE, false) := by decide
theorem test_smb : ranAt 0 [0x77] (ptr 0x00 0x10 false) (fun t => (t.d, t.df)) = some (0x0F, true) ∧
    ranAt 0 [0x77] (ptr 0x80 0x80 true) (fun t => (t.d, t.df)) = some (0x00, true) := by decide
theorem test_smbi : ranAt 0 [0x7F, 0x80] (ptr 0 0x80 false) (fun t => (t.d, t.df)) = some (0xFF, false) := by decide

/-! ### Short branches (95 §2.6): the instruction at 0x0210 with the operand byte 0x40 -/

/-- `pc` after the short branch `op 40` at 0x0210. -/
def short (op : Byte) (s : State) : Option Word := ranAt 0x210 [op, 0x40] s (·.pc)

theorem test_br : short 0x30 State.reset = some 0x240 ∧ ranAt 0x12FF [0x30, 0x40] State.reset (·.pc) = some 0x1340 := by decide
theorem test_bq : short 0x31 State.reset = some 0x212 ∧ short 0x31 (State.reset.setQ true) = some 0x240 := by decide
theorem test_bz : short 0x32 State.reset = some 0x240 ∧ short 0x32 (State.reset.setD 0x80) = some 0x212 := by decide
theorem test_bdf : short 0x33 State.reset = some 0x212 ∧ short 0x33 (State.reset.setDF true) = some 0x240 := by decide
theorem test_b1 : short 0x34 State.reset = some 0x240 ∧ short 0x34 { State.reset with ef1 := false } = some 0x212 := by decide
theorem test_b2 : short 0x35 State.reset = some 0x240 ∧ short 0x35 { State.reset with ef2 := false } = some 0x212 := by decide
theorem test_b3 : short 0x36 State.reset = some 0x240 ∧ short 0x36 { State.reset with ef3 := false } = some 0x212 := by decide
theorem test_b4 : short 0x37 State.reset = some 0x240 ∧ short 0x37 { State.reset with ef4 := false } = some 0x212 := by decide
theorem test_nbr : short 0x38 State.reset = some 0x212 := by decide
theorem test_bnq : short 0x39 State.reset = some 0x240 ∧ short 0x39 (State.reset.setQ true) = some 0x212 := by decide
theorem test_bnz : short 0x3A (State.reset.setD 0x80) = some 0x240 ∧
    ranAt 0x12FF [0x3A, 0x40] State.reset (·.pc) = some 0x1301 := by decide
theorem test_bnf : short 0x3B State.reset = some 0x240 ∧ short 0x3B (State.reset.setDF true) = some 0x212 := by decide
theorem test_bn1 : short 0x3C State.reset = some 0x212 ∧ short 0x3C { State.reset with ef1 := false } = some 0x240 := by decide
theorem test_bn2 : short 0x3D State.reset = some 0x212 ∧ short 0x3D { State.reset with ef2 := false } = some 0x240 := by decide
theorem test_bn3 : short 0x3E State.reset = some 0x212 ∧ short 0x3E { State.reset with ef3 := false } = some 0x240 := by decide
theorem test_bn4 : ranAt 0x210 [0x3F, 0x40] { State.reset with ef4 := false, dbc := 2 } (fun t => (t.pc, t.dbc)) = some (0x240, 1) ∧
    ranAt 0x210 [0x3F, 0x40] { State.reset with dbc := 2 } (fun t => (t.pc, t.dbc)) = some (0x212, 2) := by decide

/-! ### Long branches and skips (95 §2.7): the instruction at 0x0100, followed by 12 34 -/

/-- `pc` after `op 12 34` at 0x0100. -/
def long (op : Byte) (s : State) : Option Word := ranAt 0x100 [op, 0x12, 0x34] s (·.pc)

theorem test_lbr : ranAt 0x100 [0xC0, 0x12, 0x34] State.reset (fun t => (t.pc, t.cyc)) = some (0x1234, 3) ∧
    ranAt 0xFFFE [0xC0, 0xAB, 0xCD] State.reset (·.pc) = some 0xABCD := by decide
theorem test_lbq : long 0xC1 State.reset = some 0x103 ∧ long 0xC1 (State.reset.setQ true) = some 0x1234 := by decide
theorem test_lbz : long 0xC2 State.reset = some 0x1234 ∧ long 0xC2 (State.reset.setD 1) = some 0x103 := by decide
theorem test_lbdf : long 0xC3 State.reset = some 0x103 ∧ long 0xC3 (State.reset.setDF true) = some 0x1234 := by decide
theorem test_nlbr : long 0xC8 State.reset = some 0x103 := by decide
theorem test_lbnq : long 0xC9 State.reset = some 0x1234 ∧ long 0xC9 (State.reset.setQ true) = some 0x103 := by decide
theorem test_lbnz : ranAt 0xFFFE [0xCA, 0x12, 0x34] State.reset (·.pc) = some 1 ∧
    long 0xCA (State.reset.setD 1) = some 0x1234 := by decide
theorem test_lbnf : long 0xCB State.reset = some 0x1234 ∧ long 0xCB (State.reset.setDF true) = some 0x103 := by decide
theorem test_nop : ranAt 0x100 [0xC4] State.reset (fun t => (t.pc, t.cyc)) = some (0x101, 3) := by decide
theorem test_lsnq : long 0xC5 State.reset = some 0x103 ∧ long 0xC5 (State.reset.setQ true) = some 0x101 := by decide
theorem test_lsnz : long 0xC6 State.reset = some 0x101 ∧ long 0xC6 (State.reset.setD 1) = some 0x103 := by decide
theorem test_lsnf : long 0xC7 State.reset = some 0x103 ∧ long 0xC7 (State.reset.setDF true) = some 0x101 := by decide
theorem test_lsie : long 0xCC State.reset = some 0x103 ∧ long 0xCC (State.reset.setIE false) = some 0x101 := by decide
theorem test_lsq : long 0xCD State.reset = some 0x101 ∧ long 0xCD (State.reset.setQ true) = some 0x103 := by decide
theorem test_lsz : ranAt 0xFFFE [0xCE] State.reset (·.pc) = some 1 ∧ long 0xCE (State.reset.setD 1) = some 0x101 := by decide
theorem test_lsdf : long 0xCF State.reset = some 0x101 ∧ long 0xCF (State.reset.setDF true) = some 0x103 := by decide

/-! ### Control and mode (95 §2.8) -/

theorem test_sep : ranAt 0x10 [0xD3] (State.reset.setReg 3 0x200) (fun t => (t.p, t.reg 0, t.pc)) = some (3, 0x11, 0x200) := by
  decide
theorem test_sex : ranAt 0x10 [0xE2] State.reset (·.x) = some 2 := by decide
theorem test_ret : ranAt 0x10 [0x70] ((ptr 0x53 0 false).setIE false) (fun t => (t.x, t.p, t.reg 2, t.reg 5, t.ie)) =
    some (5, 3, 0x301, 0, true) := by decide
theorem test_ret_inc_new_x :
    ranAt 0x10 [0x70] { ptr 0x53 0 false with params := { Config.Params.default with retIncNewX := true } }
      (fun t => (t.x, t.p, t.reg 2, t.reg 5)) = some (5, 3, 0x300, 1) := by decide
theorem test_dis : ranAt 0 [0x71, 0x00] State.reset (fun t => (t.x, t.p, t.reg 0, t.ie)) = some (0, 0, 2, false) := by decide
theorem test_seq : ranAt 0 [0x7B] State.reset (·.q) = some true := by decide
theorem test_req : ranAt 0 [0x7A] (State.reset.setQ true) (·.q) = some false := by decide

/-! ### Input, output, unsupported (95 §2.9) -/

theorem test_out : ranAt 0 [0x64] (((ptr 0xA5 0 false).attachOut 4 1).attachOut 4 2)
      (fun t => (t.ports.presented, t.reg 2, t.disp)) =
    some ([{ port := 4, device := 1, byte := 0xA5 }, { port := 4, device := 2, byte := 0xA5 }], 0x301, true) := by decide
theorem test_out_inline : ranAt 0x10 [0x67, 0x3C] State.reset (fun t => (t.ports.outHist, t.pc, t.disp)) =
    some ([{ port := 7, byte := 0x3C }], 0x12, false) := by decide

/-- Port 1 with two devices that answer as given. -/
def asked (a b : Option Nat) : State :=
  ((ptr 0x77 0x12 false).attachIn 1 { name := 1, script := [a], asked := 0 }).attachIn 1 { name := 2, script := [b], asked := 0 }

theorem test_inp : ranAt 0 [0x69] (asked (some 0x11) none) (fun t => (t.peek 0x300, t.d)) = some (0x11, 0x11) ∧
    ranAt 0 [0x69] (asked (some 0x11) (some 0x22)) (fun t => (t.peek 0x300, t.d)) = some (0x22, 0x22) := by decide
theorem test_inp_no_value : ranAt 0 [0x69] (asked none (some 0)) (·.d) = some 0 ∧
    ranAt 0 [0x69] { asked none none with
      params := { Config.Params.default with inpDefault := Vector.replicate 8 0x55 } } (·.d) = some 0x55 := by decide
theorem test_sav : ranAt 0x120 [0x78] (ptr 0x77 0x42 false) (fun t => (t.diag, t.pc, t.d, t.peek 0x300, t.cyc)) =
    some ([{ op := 0x78, addr := 0x120 }], 0x121, 0x42, 0x77, 2) := by decide
theorem test_mark : ranAt 0 [0x79] ((ptr 0 0 false).setX 5) (fun t => (t.diag, t.pc, t.x, t.reg 2)) =
    some ([{ op := 0x79, addr := 0 }], 1, 5, 0x300) := by decide
theorem test_reserved68 : ranAt 0 [0x68] State.reset (·.pc) = none := by decide

/-! ### The loop, memory bounds, the host (95 §1.5, §1.6, §2.10) -/

theorem test_idl : ranAt 2 [0x00] State.reset (fun t => (t.rs, t.haddr, t.pc, t.cyc, t.runResult)) =
    some (.halted, 2, 2, 0, some (.halted 2)) := by decide
theorem test_idl_latch : ranAt 2 [0x00] { State.reset with n := 9 } (·.n) = some 0 ∧
    ranAt 2 [0x00] { State.reset with n := 9, params := { Config.Params.default with haltLatchesN := false } } (·.n) =
      some 9 := by decide
theorem test_idl_parameters :
    ranAt 2 [0x00] { State.reset with params := { Config.Params.default with haltPcAdvance := true, haltCostCounted := true } }
      (fun t => (t.haddr, t.pc, t.cyc)) = some (2, 3, 2) := by decide

/-- The step of a state as it is. -/
def stepped {α : Type} (s : State) (f : State → α) : Option α :=
  match step s with
  | .next t => some (f t)
  | .fault _ => none
  | .refused _ => none

/-- A request of the host on a machine that is not running. -/
def request (op : HostOp) (s : State) : State := { s with env := { s.env with pending := [op] } }

theorem test_yield : stepped { State.reset with rs := .running, disp := true, limit := 9 } (fun t => (t.rs, t.runResult)) =
    some (.yielded, some .callAgain) := by decide
theorem test_exhausted : stepped { State.reset with rs := .running, limit := -5 } (fun t => (t.rs, t.cyc)) =
    some (.exhausted, 0) := by decide
theorem test_idle : stepped State.reset (·.rs) = some .idle := by decide
theorem test_run_entry : stepped (request (.run 100 65541) { State.reset with p := 3 })
    (fun t => (t.rs, t.reg 3, t.reg 0, t.limit, t.ef4)) = some (.running, 5, 0, 100, false) := by decide
theorem test_host_write : stepped (request (.writeMemory 0x10005 0x1FF) State.reset) (·.peek 5) = some 0xFF ∧
    stepped (request (.writeMemory 0x9000 0x12) small) (·.mem) = some [] := by decide
theorem test_host_read : stepped (request (.readMemory 0x10005) (State.reset.hostWrite 5 7)) (·.env.replies) =
    some [(5, 7)] := by decide
theorem test_reset : stepped (request .reset { (ptr 0x55 7 true).setReg 0 9 with p := 3, ie := false, rs := .halted })
    (fun t => (t.p, t.ie, t.df, t.reg 0, t.rs)) =
    some (0, true, true, 0, .idle) := by decide
theorem test_clear_registers : stepped (request .clearRegisters { ptr 0x55 9 false with p := 3 })
    (fun t => (t.reg 2, t.p, t.d)) = some (0, 3, 9) := by decide
theorem test_clear_memory : stepped (request .clearMemory { ptr 0x55 9 false with mwe := false })
    (fun t => (t.peek 0x300, t.mem)) = some (0, []) := by decide
theorem test_levels : stepped (request (.setMwe false) State.reset) (·.mwe) = some false ∧
    stepped (request (.setInLine true) State.reset) (·.env.inLine) = some true ∧
    stepped (request (.setEf .ef2 false) State.reset) (fun t => (t.ef1, t.ef2, t.ef3)) = some (true, false, true) ∧
    stepped (request .dispClear State.reset.raiseDisp) (·.disp) = some false := by decide

/-! ### withFetchWord: the very next step runs the word's instruction -/

theorem test_with_fetch_word : stepped (State.reset.withFetchWord 16 0x0BF8) (fun t => (t.d, t.pc)) = some (0x0B, 2) ∧
    stepped (State.reset.withFetchWord 24 0x3412C0) (·.pc) = some 0x1234 ∧
    stepped (State.reset.withFetchWord 8 0x68) (·.pc) = none := by decide

/-! ### Witnesses: a concrete state and operands that meet every hypothesis of a statement together

`on` is a machine in a run, about to fetch the bytes given at address 0; `off` is one that is not in a run, with the
requests given. -/

def on (bytes : List Byte) : State := (State.reset.placeBytes 0 bytes).readyToFetch

def off (ops : List HostOp) : State := { State.reset with env := { State.reset.env with pending := ops } }

theorem on_fetches (bytes : List Byte) : (on bytes).fetches := by
  refine ⟨rfl, rfl, ?_⟩
  show ((on bytes).cyc : Int) < max _ (((on bytes).cyc : Int) + 1)
  omega

theorem witness_DecodeOfEncode : (Instr.ldn 1).wellFormed = true ∧ (Instr.out 7).wellFormed = true := by decide

theorem witness_EncodeOfDecode : decode [0xF8, 0x05, 0x00] = .ok (.ldi 5, [0x00]) := rfl

/-- Both clauses of OpcodeFixesLength at the boundary of each length: one byte too few, and exactly enough. -/
theorem witness_OpcodeFixesLength :
    ([] : List Byte).length + 1 < instrLength 0xF8 ∧ instrLength 0xF8 ≤ [(5 : Byte)].length + 1 ∧
    [(5 : Byte)].length + 1 < instrLength 0xC0 ∧ instrLength 0xC0 ≤ [(5 : Byte), 6].length + 1 ∧
    instrLength 0xC4 ≤ ([] : List Byte).length + 1 := by decide

theorem witness_StepRunsTheDecodedInstruction :
    (on [0x13]).fetches ∧ decode [(on [0x13]).peek 0, (on [0x13]).peek 1, (on [0x13]).peek 2] = .ok (.inc 3, [0, 0]) ∧
    (on [0x13]).pc = 0 ∧ Instr.inc 3 ≠ .idl ∧
    (on []).fetches ∧ decode [(on []).peek 0, (on []).peek 1, (on []).peek 2] = .ok (.idl, [0, 0]) ∧ (on []).pc = 0 :=
  ⟨on_fetches _, rfl, rfl, by decide, on_fetches _, rfl, rfl⟩

/-- A machine about to halt whose halt leaves `N` as it was (log 27). -/
def keepsN : State := { on [] with params := { Config.Params.default with haltLatchesN := false } }

/-- A step that fetches, a halt under either setting of the parameter, and a stop test that fetches nothing. -/
theorem witness_FetchLatchesTheLowNibble :
    ((on [0x7B]).rs = .running ∧ (on [0x7B]).fetches ∧ (on [0x7B]).peek (on [0x7B]).pc ≠ 0x00 ∧
      ∃ t, step (on [0x7B]) = .next t) ∧
    ((on []).fetches ∧ (on []).params.haltLatchesN = true ∧ ∃ t, step (on []) = .next t) ∧
    (keepsN.rs = .running ∧ keepsN.peek keepsN.pc = 0x00 ∧ keepsN.params.haltLatchesN = false ∧
      ∃ t, step keepsN = .next t) ∧
    ((on []).raiseDisp.rs = .running ∧ ¬(on []).raiseDisp.fetches ∧ ∃ t, step (on []).raiseDisp = .next t) :=
  ⟨⟨rfl, on_fetches _, by decide, _, rfl⟩, ⟨on_fetches _, rfl, _, rfl⟩, ⟨rfl, by decide, rfl, _, rfl⟩,
    rfl, fun h => absurd h.2.1 (by decide), _, rfl⟩

/-- The three clauses: the flag up; the flag down with the budget just used up; the flag down with 1 cycle left. -/
theorem witness_StopTestsBeforeTheFetch :
    (on [0x7B]).raiseDisp.rs = .running ∧ (on [0x7B]).raiseDisp.disp = true ∧
    (on [0x7B]).rs = .running ∧ (on [0x7B]).disp = false ∧ ((on [0x7B]).cyc : Int) + 1 = (on [0x7B]).limit ∧
    ((on [0x7B]).addCycles 1).disp = false ∧ ((on [0x7B]).addCycles 1).limit = (((on [0x7B]).addCycles 1).cyc : Int) ∧
    ∃ t, step (on [0x7B]) = .next t :=
  ⟨rfl, rfl, rfl, rfl, rfl, rfl, rfl, _, rfl⟩

theorem witness_OnlyTheHaltByteHalts :
    (on []).fetches ∧ (∃ t, step (on []) = .next t) ∧ (on [0x7B]).fetches ∧ ∃ t, step (on [0x7B]) = .next t :=
  ⟨on_fetches _, ⟨_, rfl⟩, on_fetches _, _, rfl⟩

theorem witness_HaltIsAbsorbing :
    let s : State := { off [.run 1 (-1)] with rs := .halted }
    s.rs = .halted ∧ s.pc = s.haddr ∧ s.peek s.pc = 0x00 ∧ s.disp = false ∧ s.params.haltPcAdvance = false ∧
    s.params.haltCostCounted = false ∧ s.env.pending = [.run 1 (-1)] ∧ (-1 : Int) < 0 ∧ (0 : Int) < 1 := by decide

theorem witness_EveryRunStops : (on [0x30, 0x00]).rs = .running ∧ (on [0x68]).rs = .running := by decide

theorem witness_StepKeepsTheInvariant : (on [0x7B, 0x64]).Inv ∧ ∃ t, step (on [0x7B, 0x64]) = .next t :=
  ⟨⟨by decide, by decide, by decide, by decide, by decide⟩, _, rfl⟩

/-- A state with something in every record the invariant speaks of. -/
theorem witness_invariant_of_records : ∃ t, step (on [0x78]) = .next t ∧ t.diag ≠ [] ∧
    ∃ u, step (on [0x61]) = .next u ∧ u.ports.outHist ≠ [] :=
  ⟨_, rfl, by decide, _, rfl, by decide⟩

theorem witness_OnlyTheReservedByteStops : (on [0x68]).fetches ∧ (on [0x68]).peek (on [0x68]).pc = 0x68 :=
  ⟨on_fetches _, by decide⟩

/-- The rows below, at both ends of, and above the row of cost 3. -/
theorem witness_CycleCounterAddsTheCost : ∀ op ∈ [(0xBF : Byte), 0xC0, 0xCF, 0xD0],
    (on [op]).fetches ∧ (∃ t, step (on [op]) = .next t) ∧ (on [op]).peek (on [op]).pc = op ∧ op ≠ 0x00 := by
  simp only [List.mem_cons, List.not_mem_nil, or_false]
  rintro op (rfl | rfl | rfl | rfl) <;> exact ⟨on_fetches _, ⟨_, rfl⟩, by decide, by decide⟩

theorem witness_run_steps : (on [0x64]).rs = .running ∧ ∃ t, step (on [0x64]) = .next t ∧ t.disp ≠ (on [0x64]).disp ∧
    (on [0x64]).ports.outHist <+: t.ports.outHist :=
  ⟨rfl, _, rfl, by decide, List.nil_prefix⟩

/-- Each item of ControlStateWriters does change somewhere. -/
theorem witness_ControlStateWriters :
    stepped (on [0xD3]) (·.p) = some 3 ∧ stepped (on [0x70, 0]) (·.p) = some 0 ∧ stepped (on [0xE3]) (·.x) = some 3 ∧
    stepped (on [0x71]) (·.ie) = some false ∧ stepped (on [0x7B]) (·.q) = some true ∧
    stepped (on [0x64]) (·.disp) = some true ∧
    stepped { on [0x3F] with ef4 := false, dbc := 1 } (·.dbc) = some 0 ∧
    stepped (on [0x78]) (·.diag.length) = some 1 ∧ stepped { on [0xF6] with d := 1 } (·.df) = some true := by decide

/-- Neither premise on the opcode is empty, and the excluded instructions do read the flag. -/
theorem witness_CarryAndEnableReaders :
    (∃ t, exec .add State.reset = .next t) ∧
    opcode .add ∉ [0x74, 0x7C, 0x75, 0x7D, 0x77, 0x7F, 0x76, 0x7E, 0x33, 0x3B, 0xC3, 0xCB, 0xCF, 0xC7] ∧
    opcode .add ≠ 0xCC := ⟨⟨_, rfl⟩, by decide, by decide⟩

theorem witness_TraceIsASideChannel : ∃ t, step (on [0x72]) = .next t := ⟨_, rfl⟩

/-- A step that changes a byte of memory, for each of the three stores. -/
theorem witness_MemoryWriters :
    stepped { on [0x51] with d := 9 } (fun t => (t.peek 0, (on [0x51]).peek 0)) = some (9, 0x51) ∧
    stepped { on [0x73] with d := 9 } (fun t => (t.peek 1, (on [0x73]).peek 1)) = some (9, 0) ∧
    stepped { on [0x69, 7] with rs := .running } (fun t => (t.peek 1, (on [0x69, 7]).peek 1)) = some (0, 7) := by decide

/-- The last address that exists and the first that does not, and a store that is discarded. -/
theorem witness_StoreOrDiscard :
    (0x7FFF#16).toNat < small.params.cap.val ∧ small.params.cap.val ≤ (0x8000#16).toNat ∧
    ¬((small.setReg 0 0x8000).rx.toNat < small.params.cap.val ∧ small.mwe = true) := by decide

theorem witness_HostMemoryPort :
    (off [.readMemory 65536]).rs ≠ .running ∧ (off [.readMemory 65536]).env.pending = [.readMemory 65536] ∧
    (off [.writeMemory 65535 256]).rs ≠ .running ∧
    (off [.writeMemory 65535 256]).env.pending = [.writeMemory 65535 256] := by decide

theorem witness_HalvesRoundTrip : (6 : Nibble) ≠ State.reset.p := by decide

theorem witness_LoadResult : (Instr.ldn 7).wellFormed = true ∧ Instr.ldx.wellFormed = true := by decide

theorem witness_LoadImmediateFromMemory : (on [0xF8, 5]).fetches ∧ (on [0xF8, 5]).peek (on [0xF8, 5]).pc = 0xF8 :=
  ⟨on_fetches _, by decide⟩

/-- Both clauses of the two stores, on either side of the end of memory and with the switch off. -/
theorem witness_stores :
    small.mwe = true ∧ ((small.setReg 8 0x7FFF).reg 8).toNat < small.params.cap.val ∧
    small.params.cap.val ≤ ((small.setReg 8 0x8000).reg 8).toNat ∧
    ((small.setReg 0 0x7FFF).reg (small.setReg 0 0x7FFF).x).toNat < small.params.cap.val ∧
    small.params.cap.val ≤ ((small.setReg 0 0x8000).reg (small.setReg 0 0x8000).x).toNat ∧
    ({ small with mwe := false } : State).mwe = false := by decide

/-- The example of R109's file: 0x12FF and 0x34C1, in memory for the memory forms, with the `DF` of the plain form 1. -/
theorem witness_MultiByteArithmetic :
    (ptr 0xC1 0xFF false).d = (0x12FF : Word).setWidth 8 ∧
    (ptr 0xC1 0xFF false).peek ((ptr 0xC1 0xFF false).reg (ptr 0xC1 0xFF false).x) = (0x34C1 : Word).setWidth 8 ∧
    (∃ t, exec .add (ptr 0xC1 0xFF false) = .next t ∧ (ptr 0x34 0x12 true).df = t.df) ∧
    (ptr 0x34 0x12 true).d = ((0x12FF : Word) >>> 8).setWidth 8 ∧
    (ptr 0x34 0x12 true).peek ((ptr 0x34 0x12 true).reg (ptr 0x34 0x12 true).x) = ((0x34C1 : Word) >>> 8).setWidth 8 :=
  ⟨by decide, by decide, ⟨_, rfl, by decide⟩, by decide, by decide⟩

theorem witness_DebouncedBranch :
    (({ State.reset with ef4 := false, dbc := 1 } : State).ef4 = false ∧
      ({ State.reset with ef4 := false, dbc := 1 } : State).dbc ≠ 0) ∧
    ¬(State.reset.ef4 = false ∧ State.reset.dbc ≠ 0) ∧
    ¬(({ State.reset with ef4 := false } : State).ef4 = false ∧ ({ State.reset with ef4 := false } : State).dbc ≠ 0) := by
  decide

theorem witness_UnsupportedResult :
    ((on [0x78]).fetches ∧ (on [0x78]).peek (on [0x78]).pc = 0x78) ∧
    ((on [0x79]).fetches ∧ (on [0x79]).peek (on [0x79]).pc = 0x79) :=
  ⟨⟨on_fetches _, by decide⟩, on_fetches _, by decide⟩

/-- The last address that exists, the first that does not, and the switch off. -/
theorem witness_InputResult :
    small.mwe = true ∧ ((small.setReg 0 0x7FFF).reg (small.setReg 0 0x7FFF).x).toNat < small.params.cap.val ∧
    small.params.cap.val ≤ ((small.setReg 0 0x8000).reg (small.setReg 0 0x8000).x).toNat ∧
    ({ small with mwe := false } : State).mwe = false := by decide

/-- A start address below 0 (none given) and at 0 (the first that is given). -/
theorem witness_RunEntry :
    (off [.run 100 (-1)]).rs ≠ .running ∧ (off [.run 100 (-1)]).env.pending = [.run 100 (-1)] ∧ (-1 : Int) < 0 ∧
    (off [.run 100 0]).rs ≠ .running ∧ (off [.run 100 0]).env.pending = [.run 100 0] ∧ (0 : Int) ≤ 0 := by decide

theorem witness_ResetOperation :
    (off [.reset, .reset]).rs ≠ .running ∧ (off [.reset, .reset]).env.pending = .reset :: [.reset] := by decide

theorem witness_ClearOperations :
    (off [.clearRegisters]).rs ≠ .running ∧ (off [.clearRegisters]).env.pending = [.clearRegisters] ∧
    (off [.clearMemory]).env.pending = [.clearMemory] := by decide

theorem witness_HostLevels :
    (off [.dispClear]).rs ≠ .running ∧ (off [.dispClear]).env.pending = [.dispClear] ∧
    (off [.setMwe false]).env.pending = [.setMwe false] ∧ (off [.setInLine true]).env.pending = [.setInLine true] ∧
    (off [.setEf .ef1 false]).env.pending = [.setEf .ef1 false] ∧
    (off [.setEf .ef2 false]).env.pending = [.setEf .ef2 false] ∧
    (off [.setEf .ef3 false]).env.pending = [.setEf .ef3 false] := by decide

theorem witness_AttachAppends :
    (off [.attachOut 12 1]).rs ≠ .running ∧ (off [.attachOut 12 1]).env.pending = [.attachOut 12 1] ∧
    (off [.attachIn 4 { name := 1, script := [], asked := 0 }]).env.pending =
      [.attachIn 4 { name := 1, script := [], asked := 0 }] := by decide

/-- Every row of RegisterIsTheProgramCounter, with `P = 1` so that LDN has its row too. -/
theorem witness_RegisterIsTheProgramCounter :
    ∀ op ∈ [(0x11 : Byte), 0x21, 0x81, 0x91, 0xA1, 0xB1, 0x01, 0x41, 0x51, 0xD1, 0xE1],
      let s := (on [op]).setP 1
      s.fetches ∧ (s.peek s.pc).extractLsb' 0 4 = s.p ∧ s.peek s.pc = op ∧ s.p ≠ 0 ∧ s.mwe = true ∧
        (s.pc + 1).toNat < s.params.cap.val ∧ ∃ t, step s = .next t := by
  simp only [List.mem_cons, List.not_mem_nil, or_false]
  rintro op (rfl | rfl | rfl | rfl | rfl | rfl | rfl | rfl | rfl | rfl | rfl) <;>
    exact ⟨on_fetches _, by decide, by decide, by decide, by decide, by decide, _, rfl⟩

/-- Every row of PointerIsTheProgramCounter, with the first and last port. -/
theorem witness_PointerIsTheProgramCounter :
    ∀ op ∈ [(0xF0 : Byte), 0x72, 0x61, 0x67, 0x60, 0x73, 0x69, 0x6F, 0xF1, 0xF2, 0xF3, 0xF4, 0x74, 0xF5, 0x75, 0xF7, 0x77,
        0x70, 0x71],
      (on [op]).fetches ∧ (on [op]).x = (on [op]).p ∧ (on [op]).peek (on [op]).pc = op ∧ (on [op]).mwe = true ∧
        ((on [op]).pc + 1).toNat < (on [op]).params.cap.val ∧ ∃ t, step (on [op]) = .next t := by
  simp only [List.mem_cons, List.not_mem_nil, or_false]
  rintro op (rfl | rfl | rfl | rfl | rfl | rfl | rfl | rfl | rfl | rfl | rfl | rfl | rfl | rfl | rfl | rfl | rfl | rfl |
    rfl) <;>
    exact ⟨on_fetches _, by decide, by decide, by decide, by decide, _, rfl⟩

/-- The first address that does not exist, in a machine of 32768 bytes. -/
theorem witness_FetchBeyondMemory :
    let s := (small.setPc 0x8000).readyToFetch
    s.fetches ∧ s.params.cap.val ≤ s.pc.toNat ∧ s.params.cap.val ≤ (s.pc + 1).toNat :=
  ⟨⟨rfl, rfl, by decide⟩, by decide, by decide⟩

end Sys2Proof.Tests
end

section
/-! SUPPORT. What the execute phase can write: every instruction but the halt is a chain of the named writes of
`Machine/Ops.lean`, and the writes of control state stand open only to the opcode bytes that R17 to R30 and R61 name. -/

namespace Sys2Proof.Machine

/-- The writers of `DF`: the twelve additions and subtractions and the four shifts (R18). -/
def dfWriters : List Byte :=
  [0xF4, 0xFC, 0x74, 0x7C, 0xF5, 0xFD, 0x75, 0x7D, 0xF7, 0xFF, 0x77, 0x7F, 0xF6, 0x76, 0xFE, 0x7E]

/-- `Writes op s t`: from `s` a chain of writes, each one allowed to an instruction with the opcode byte `op`, leads to `t`. -/
inductive Writes (op : Byte) (s : State) : State → Prop
  | none : Writes op s s
  | setReg {t} (n : Nibble) (v : Word) : Writes op s t → Writes op s (t.setReg n v)
  | setP {t} (v : Nibble) : hiNibble op = 0xD ∨ op ∈ [0x70, 0x71] → Writes op s t → Writes op s (t.setP v)
  | setX {t} (v : Nibble) : hiNibble op = 0xE ∨ op ∈ [0x70, 0x71] → Writes op s t → Writes op s (t.setX v)
  | setD {t} (v : Byte) : Writes op s t → Writes op s (t.setD v)
  | setDF {t} (v : Bool) : op ∈ dfWriters → Writes op s t → Writes op s (t.setDF v)
  | setQ {t} (v : Bool) : op ∈ [0x7A, 0x7B] → Writes op s t → Writes op s (t.setQ v)
  | setIE {t} (v : Bool) : op ∈ [0x70, 0x71] → Writes op s t → Writes op s (t.setIE v)
  | setDbc {t} (v : Nat) : op = 0x3F → Writes op s t → Writes op s (t.setDbc v)
  | noteRead {t} (a : Word) : Writes op s t → Writes op s (t.noteRead a)
  | memWrite {t} (a : Word) (v : Byte) : Writes op s t → Writes op s (t.memWrite a v)
  | portOut {t} (p : Port) (v : Byte) : p ≠ 0 → Writes op s t → Writes op s (t.portOut p v)
  | raiseDisp {t} : op = 0x64 → Writes op s t → Writes op s t.raiseDisp
  | portInAsked {t} (p : Port) : Writes op s t → Writes op s (t.portInAsked p)
  | warn {t} (a : Word) : op ∈ [0x78, 0x79] → Writes op s t → Writes op s (t.warn op a)

namespace Writes

variable {op : Byte} {s t : State}

/-! ### The shared operations of `Machine/Operands.lean` as chains of writes -/

theorem shortBranch {c : Bool} {a : Byte} {u : State} (hs : Writes op s t)
    (h : Machine.shortBranch c a t = .next u) : Writes op s u := by
  obtain ⟨-, rfl⟩ | ⟨-, rfl⟩ := shortBranch_spec h
  · exact (hs.noteRead _).setReg _ _
  · exact hs.setReg _ _

theorem longBranch {c : Bool} {w : Word} (h : Machine.longBranch c w s = .next t) : Writes op s t := by
  obtain ⟨-, rfl⟩ | ⟨-, rfl⟩ := longBranch_spec h
  · exact ((none.noteRead _).noteRead _).setReg _ _
  · exact none.setReg _ _

theorem longSkip {c : Bool} (h : Machine.longSkip c s = .next t) : Writes op s t := by
  obtain ⟨-, rfl⟩ | ⟨-, rfl⟩ := longSkip_spec h
  · exact none.setReg _ _
  · exact none

theorem setAlu (hs : Writes op s t) (r : Byte × Bool) (hop : op ∈ dfWriters) : Writes op s (t.setAlu r) :=
  (hs.setDF _ hop).setD _

theorem returnFrom (ie : Bool) (hop : op ∈ [0x70, 0x71]) : Writes op s (s.returnFrom ie) :=
  ((((none.noteRead _).setX _ (.inr hop)).setP _ (.inr hop)).setReg _ _).setIE _ hop

end Writes

/-- The row of an opcode byte of format `REG` (R55). -/
theorem hiNibble_regOpcode (row n : Nibble) : hiNibble (regOpcode row n) = row := by
  revert row n; decide

/-- The execute phase of every instruction but the halt is a chain of the writes that its opcode byte allows. -/
theorem exec_writes {i : Instr} {s t : State} (hw : i.wellFormed = true) (hi : i ≠ .idl) (h : exec i s = .next t) :
    Writes (opcode i) s t := by
  cases i with
  | idl => exact absurd rfl hi
  | reserved68 => cases h
  | nop => cases h; exact Writes.none
  | ldn | ldx | or | and | xor => cases h; exact (Writes.none.noteRead _).setD _
  | lda | ldxa => cases h; exact ((Writes.none.noteRead _).setD _).setReg _ _
  | ldi | ori | ani | xri => cases h; exact ((Writes.none.noteRead _).setReg _ _).setD _
  | str => cases h; exact Writes.none.memWrite _ _
  | stxd => cases h; exact (Writes.none.memWrite _ _).setReg _ _
  | inc | dec | irx | plo | phi | nbr | nlbr => cases h; exact Writes.none.setReg _ _
  | glo | ghi => cases h; exact Writes.none.setD _
  | br => cases h; exact (Writes.none.noteRead _).setReg _ _
  | lbr => cases h; exact ((Writes.none.noteRead _).noteRead _).setReg _ _
  | bq | bz | bdf | b1 | b2 | b3 | b4 | bnq | bnz | bnf | bn1 | bn2 | bn3 => exact Writes.none.shortBranch h
  | bn4 a =>
    simp only [exec, execBn4] at h
    split at h
    · exact (Writes.none.setDbc _ rfl).shortBranch h
    · exact Writes.none.shortBranch h
  | lbq | lbz | lbdf | lbnq | lbnz | lbnf => exact Writes.longBranch h
  | lsnq | lsnz | lsnf | lsie | lsq | lsz | lsdf => exact Writes.longSkip h
  | add | adc | sd | sdb | sm | smb => cases h; exact (Writes.none.noteRead _).setAlu _ (by decide)
  | adi | adci | sdi | sdbi | smi | smbi =>
    cases h; exact ((Writes.none.noteRead _).setReg _ _).setAlu _ (by simp [opcode, dfWriters])
  | shr | shrc | shl | shlc => cases h; exact Writes.none.setAlu _ (by decide)
  | sep n => cases h; exact Writes.none.setP _ (.inl (hiNibble_regOpcode _ n))
  | sex n => cases h; exact Writes.none.setX _ (.inl (hiNibble_regOpcode _ n))
  | ret | dis => cases h; exact Writes.returnFrom _ (by decide)
  | seq | req => cases h; exact Writes.none.setQ _ (by decide)
  | sav | mark => cases h; exact Writes.none.warn _ (by decide)
  | inp => cases h; exact ((Writes.none.portInAsked _).memWrite _ _).setD _
  | out p =>
    have hp : p ≠ 0 := by simpa [Instr.wellFormed] using hw
    have ht : Writes (opcode (.out p)) s (((s.noteRead s.rx).portOut p (s.peek s.rx)).incReg s.x) :=
      ((Writes.none.noteRead _).portOut _ _ hp).setReg _ _
    cases h
    split
    next h4 => exact ht.raiseDisp (by rw [h4]; rfl)
    next => exact ht

/-- BN4 counts `DBC` down by 1 or leaves it, and counts only while `EF[4] = 0` (R127). -/
theorem exec_bn4_dbc {a : Byte} {s t : State} (h : exec (.bn4 a) s = .next t) :
    t.dbc = s.dbc ∨ s.ef4 = false ∧ t.dbc + 1 = s.dbc := by
  simp only [exec, execBn4] at h
  split at h
  next hc =>
    simp only [Bool.and_eq_true, Bool.not_eq_true', bne_iff_ne] at hc
    cases h
    exact .inr ⟨hc.1, Nat.succ_pred hc.2⟩
  next => cases h; exact .inl rfl

/-- The effect of the halt: `RS`, `HADDR`, and the program counter and the cycles by the two parameters (R164). -/
def State.halt (s : State) : State :=
  { s with
    rs := .halted
    haddr := s.pc
    regs := if s.params.haltPcAdvance then s.regs.set s.p.toNat (s.pc + 1) s.p.isLt else s.regs
    cyc := if s.params.haltCostCounted then s.cyc + 2 else s.cyc }

theorem exec_idl (s : State) : exec .idl s = .next s.halt := by
  simp only [exec, execIdl, State.halt]
  split_ifs <;> rfl

end Sys2Proof.Machine
end

section
/-! SUPPORT. What no chain of writes changes, and which opcode bytes change an item of control state. -/

namespace Sys2Proof.Machine

/-- The items that no execute phase writes, but for the halt's `RS`, `HADDR` and `CYC`: the inputs of the core (R21, R40,
R153, R160), `BUS` (R31), `N` (R29), and what the loop itself writes (R161 to R164). Of an input device the name is kept, not
the count of requests. -/
structure SteadyItemsKept (s t : State) : Prop where
  n : t.n = s.n
  ef1 : t.ef1 = s.ef1
  ef2 : t.ef2 = s.ef2
  ef3 : t.ef3 = s.ef3
  ef4 : t.ef4 = s.ef4
  mwe : t.mwe = s.mwe
  bus : t.bus = s.bus
  rs : t.rs = s.rs
  haddr : t.haddr = s.haddr
  cyc : t.cyc = s.cyc
  limit : t.limit = s.limit
  outDevs : t.ports.outDevs = s.ports.outDevs
  inNames : t.ports.inDevs.map (·.map InDevice.name) = s.ports.inDevs.map (·.map InDevice.name)
  env : t.env = s.env
  params : t.params = s.params

/-- A request changes no device's name and no list's order (R153, R155). -/
theorem State.portInAsked_names (s : State) (p : Port) :
    (s.portInAsked p).ports.inDevs.map (·.map InDevice.name) = s.ports.inDevs.map (·.map InDevice.name) := by
  have hname : InDevice.name ∘ InDevice.afterAsk = InDevice.name := rfl
  apply Vector.ext
  intro k hk
  by_cases hkp : p.toNat = k
  · subst hkp; simp [hname]
  · simp [hkp]

theorem Writes.steadyItemsKept {op : Byte} {s t : State} (h : Writes op s t) : SteadyItemsKept s t := by
  induction h with
  | none => constructor <;> rfl
  | @portInAsked t p _ ih => exact { ih with inNames := (t.portInAsked_names p).trans ih.inNames }
  | _ => rename_i ih; exact { ih with }

/-! ### Which opcode bytes change an item of control state -/

/-- If an item of control state has changed from `s` to `t`, the opcode byte is one that may change it (R17 to R20, R23, R24,
R30, R61). -/
structure ControlChanges (op : Byte) (s t : State) : Prop where
  p : t.p ≠ s.p → hiNibble op = 0xD ∨ op ∈ [0x70, 0x71]
  x : t.x ≠ s.x → hiNibble op = 0xE ∨ op ∈ [0x70, 0x71]
  ie : t.ie ≠ s.ie → op ∈ [0x70, 0x71]
  q : t.q ≠ s.q → op ∈ [0x7A, 0x7B]
  disp : t.disp ≠ s.disp → op = 0x64 ∧ t.disp = true
  dbc : t.dbc ≠ s.dbc → op = 0x3F
  diag : t.diag ≠ s.diag → op ∈ [0x78, 0x79]
  df : t.df ≠ s.df → op ∈ dfWriters

theorem Writes.controlChanges {op : Byte} {s t : State} (h : Writes op s t) : ControlChanges op s t := by
  induction h with
  | none => constructor <;> exact fun hne => absurd rfl hne
  | setP _ hop _ ih => exact { ih with p := fun _ => hop }
  | setX _ hop _ ih => exact { ih with x := fun _ => hop }
  | setIE _ hop _ ih => exact { ih with ie := fun _ => hop }
  | setQ _ hop _ ih => exact { ih with q := fun _ => hop }
  | raiseDisp hop _ ih => exact { ih with disp := fun _ => ⟨hop, rfl⟩ }
  | setDbc _ hop _ ih => exact { ih with dbc := fun _ => hop }
  | warn _ hop _ ih => exact { ih with diag := fun _ => hop }
  | setDF _ hop _ ih => exact { ih with df := fun _ => hop }
  | _ => rename_i ih; exact { ih with }

end Sys2Proof.Machine
end

section
/-! SUPPORT. The step in a run, case by case, and the reads beyond the end of memory. -/

namespace Sys2Proof.Machine

/-- Out of bounds a read gives 0xFF (R38). -/
theorem State.peek_beyond (s : State) {a : Word} (ha : s.params.cap.val ≤ a.toNat) : s.peek a = 0xFF :=
  if_neg (not_lt.mpr ha)

/-- The yield flag stops a run before the fetch (R161). -/
theorem step_yields {s : State} (hr : s.rs = .running) (hd : s.disp = true) : step s = .next (s.setRs .yielded) := by
  simp [step, machineStep, hr, runTurn, hd]

/-- A used-up budget stops a run before the fetch (R161). -/
theorem step_exhausts {s : State} (hr : s.rs = .running) (hd : s.disp = false) (hl : s.limit ≤ (s.cyc : Int)) :
    step s = .next (s.setRs .exhausted) := by
  simp [step, machineStep, hr, runTurn, hd, hl]

/-- The state after a step that fetches the halt byte: the halt, and the fetch's writes of `LAST_FETCH` and `N`
(log 19, 27). -/
def State.afterHalt (s : State) : State :=
  { s.halt with trace := { s.trace with lastFetch := s.pc }, n := if s.params.haltLatchesN then 0 else s.n }

theorem exec_idl_fetched (s : State) : exec .idl (s.fetched 0x00) = .next s.afterHalt := by
  rw [exec_idl, fetched_eq, if_neg (not_not.mpr rfl), State.afterHalt]
  cases hn : s.params.haltLatchesN <;> rfl

/-- The instruction at `pc` is the halt exactly when the byte there is 0x00 (R58). -/
theorem fetchInstr_eq_idl (s : State) : s.fetchInstr = .idl ↔ s.peek s.pc = 0x00 := decodeOp_eq_idl _ _ _

/-- The fetched instruction, other than the halt, is a chain of the writes that the byte at `pc` allows. -/
theorem writes_of_exec_fetchInstr {s s' t : State} (hop : s.peek s.pc ≠ 0x00) (h : exec s.fetchInstr s' = .next t) :
    Writes (s.peek s.pc) s' t :=
  opcode_fetchInstr s ▸ exec_writes (wellFormed_fetchInstr s) (mt (fetchInstr_eq_idl s).mp hop) h

/-- The four things a step in a run can do when it answers a next state: yield, stop at the budget, halt, or execute. -/
theorem step_run_cases {s t : State} (hr : s.rs = .running) (h : step s = .next t) :
    (¬s.fetches ∧ t = s.setRs .yielded) ∨ (¬s.fetches ∧ t = s.setRs .exhausted) ∨
    (s.fetches ∧ s.peek s.pc = 0x00 ∧ t = s.afterHalt) ∨
    (s.fetches ∧ s.peek s.pc ≠ 0x00 ∧ ∃ u,
      exec s.fetchInstr ((s.noteFetch s.pc).passOpcode (s.peek s.pc)) = .next u ∧
      t = u.addCycles (cost (s.peek s.pc))) := by
  obtain ⟨hd, rfl⟩ | ⟨-, hl, rfl⟩ | ⟨hd, hl, u, hu, rfl⟩ := step_running hr h
  · exact .inl ⟨fun hf => absurd hf.2.1 (by simp [hd]), rfl⟩
  · exact .inr (.inl ⟨fun hf => absurd hf.2.2 (not_lt.mpr hl), rfl⟩)
  · by_cases hop : s.peek s.pc = 0x00
    · rw [(fetchInstr_eq_idl s).mpr hop, hop, exec_idl_fetched] at hu
      cases hu
      exact .inr (.inr (.inl ⟨⟨hr, hd, hl⟩, hop, if_pos hop⟩))
    · rw [State.fetched, if_neg hop] at hu
      exact .inr (.inr (.inr ⟨⟨hr, hd, hl⟩, hop, u, hu, if_neg hop⟩))

end Sys2Proof.Machine
end

section
/-! SUPPORT. The invariant of the machine is kept by every write, by the halt and by every operation of the host. -/

namespace Sys2Proof.Machine

/-- The invariant speaks of these items alone: a state that agrees in them meets it too. -/
theorem State.Inv.congr {s t : State} (h : s.Inv) (hmem : t.mem = s.mem) (hcap : t.params = s.params)
    (hcyc : t.cyc = s.cyc) (hlimit : t.limit = s.limit) (hout : t.ports.outHist = s.ports.outHist)
    (hdiag : t.diag = s.diag) : t.Inv where
  memory := hmem ▸ h.memory
  bounds := by rw [hmem, hcap]; exact h.bounds
  budget := by rw [hcyc, hlimit]; exact h.budget
  outputs := by rw [hout]; exact h.outputs
  warnings := by rw [hdiag]; exact h.warnings

/-- Listing a byte at an address below `CAP` keeps the invariant: a store of an instruction or of the host. -/
theorem State.Inv.write {s : State} (h : s.Inv) {a : Nat} (v : Byte) (ha : a < s.params.cap.val) :
    State.Inv { s with mem := s.mem.write a v } where
  memory := Memory.wf_write a v h.memory
  bounds := fun c hc => (Memory.mem_write hc).elim (h.bounds c) (fun hca => hca ▸ ha)
  budget := h.budget
  outputs := h.outputs
  warnings := h.warnings

theorem State.Inv.memWrite {s : State} (h : s.Inv) (a : Word) (v : Byte) : (s.memWrite a v).Inv := by
  by_cases hw : (decide (a.toNat < s.params.cap.val) && s.mwe) = true
  · have ha : a.toNat < s.params.cap.val := of_decide_eq_true (Bool.and_eq_true_iff.mp hw).1
    exact (h.write v ha).congr (if_pos hw) rfl rfl rfl rfl rfl
  · exact h.congr (if_neg hw) rfl rfl rfl rfl rfl

theorem State.Inv.hostWrite {s : State} (h : s.Inv) (a v : Nat) : (s.hostWrite a v).Inv := by
  by_cases ha : a % 65536 < s.params.cap.val
  · exact (h.write (BitVec.ofNat 8 v) ha).congr (if_pos ha) rfl rfl rfl rfl rfl
  · exact h.congr (if_neg ha) rfl rfl rfl rfl rfl

theorem State.Inv.portOut {s : State} (h : s.Inv) {p : Port} (v : Byte) (hp : p ≠ 0) : (s.portOut p v).Inv where
  memory := h.memory
  bounds := h.bounds
  budget := h.budget
  outputs := fun _ he => (List.mem_append.mp he).elim (h.outputs _) (fun he => List.mem_singleton.mp he ▸ hp)
  warnings := h.warnings

theorem State.Inv.warn {s : State} (h : s.Inv) {op : Byte} (a : Word) (hop : op ∈ [0x78, 0x79]) :
    (s.warn op a).Inv where
  memory := h.memory
  bounds := h.bounds
  budget := h.budget
  outputs := h.outputs
  warnings := fun _ hw => (List.mem_append.mp hw).elim (h.warnings _)
    (fun hw => List.mem_singleton.mp hw ▸ by simpa using hop)

/-- The execute phase keeps the invariant: its only writes of memory and of the records are stores, outputs to ports 1 to 7,
and the diagnostics of SAV and MARK. -/
theorem Writes.inv {op : Byte} {s t : State} (h : Writes op s t) (hs : s.Inv) : t.Inv := by
  induction h with
  | none => exact hs
  | memWrite a v _ ih => exact ih.memWrite a v
  | portOut p v hp _ ih => exact ih.portOut v hp
  | warn a hop _ ih => exact ih.warn a hop
  | _ => rename_i ih; exact ih.congr rfl rfl rfl rfl rfl rfl

theorem cost_le_three (op : Byte) : cost op ≤ 3 := by
  unfold cost; split <;> decide

/-- An instruction that starts below the budget overshoots it by at most 2 (R161): none costs more than 3. -/
theorem State.Inv.addCycles {s : State} (h : s.Inv) {k : Nat} (hk : k ≤ 3) (hl : (s.cyc : Int) < s.limit) :
    (s.addCycles k).Inv where
  memory := h.memory
  bounds := h.bounds
  budget := by simp only [State.addCycles_cyc, State.addCycles_limit]; omega
  outputs := h.outputs
  warnings := h.warnings

theorem State.Inv.afterHalt {s : State} (h : s.Inv) (hl : (s.cyc : Int) < s.limit) : s.afterHalt.Inv := by
  cases hc : s.params.haltCostCounted with
  | false => exact h.congr rfl rfl (by simp [State.afterHalt, State.halt, hc]) rfl rfl rfl
  | true => exact (h.addCycles (k := 2) (by decide) hl).congr rfl rfl (by simp [State.afterHalt, State.halt, hc]) rfl rfl rfl

/-- Every operation of the host keeps the invariant; a run entry puts `CYC` to 0 (R160). -/
theorem State.Inv.hostOp {s : State} (h : s.Inv) (op : HostOp) : (s.hostOp op).Inv := by
  cases op with
  | reset | clearRegisters | dispClear | setMwe | setInLine | readMemory | attachOut | attachIn =>
    exact h.congr rfl rfl rfl rfl rfl rfl
  | setEf flag => cases flag <;> exact h.congr rfl rfl rfl rfl rfl rfl
  | writeMemory a v => exact h.hostWrite a v
  | clearMemory =>
    exact ⟨s.wf_clearMemory, fun _ hc => absurd hc List.not_mem_nil, h.budget, h.outputs, h.warnings⟩
  | run limit start =>
    have hstart : State.Inv { s with cyc := 0, limit := limit } :=
      ⟨h.memory, h.bounds, le_max_left _ _, h.outputs, h.warnings⟩
    unfold State.hostOp State.enterRun State.runEntry
    dsimp only
    split <;> exact hstart.congr rfl rfl rfl rfl rfl rfl

theorem State.Inv.betweenRuns {s : State} (h : s.Inv) : s.betweenRuns.Inv := by
  cases hp : s.env.pending with
  | nil => rwa [betweenRuns_nil hp]
  | cons op later =>
    rw [betweenRuns_cons hp]
    have hserved : State.Inv { s with env := { s.env with pending := later } } := h.congr rfl rfl rfl rfl rfl rfl
    exact hserved.hostOp op

end Sys2Proof.Machine
end

section
/-! SUPPORT. Two runs of one instruction from states that differ in `DF`, `IE` and the trace addresses alone (R18, R20, R32):
the next states differ in nothing else, unless the instruction reads a flag in which they differ. -/

namespace Sys2Proof.Machine

/-- `s` with other flags `DF` and `IE` and other trace addresses. -/
def State.withFlags (s : State) (df ie : Bool) (tr : Trace) : State := { s with df := df, ie := ie, trace := tr }

/-- `s'` leads to `t'` as `s` leads to `t`: the next states agree but for the flags and the trace, and each flag is written to
the same value in both or carried over in both. Runs that start with one trace end with one trace. -/
structure LeadsAlike (s t s' t' : State) : Prop where
  rest : t' = t.withFlags t'.df t'.ie t'.trace
  df : t'.df = t.df ∨ (t'.df = s'.df ∧ t.df = s.df)
  ie : t'.ie = t.ie ∨ (t'.ie = s'.ie ∧ t.ie = s.ie)
  trace : s'.trace = s.trace → t'.trace = t.trace

/-- The fourteen readers of `DF` (R18). -/
def dfReaders : List Byte :=
  [0x74, 0x7C, 0x75, 0x7D, 0x77, 0x7F, 0x76, 0x7E, 0x33, 0x3B, 0xC3, 0xCB, 0xCF, 0xC7]

section

variable {s t : State} (b c : Bool) (tr : Trace)

theorem shortBranch_withFlags {taken : Bool} {a : Byte} (h : shortBranch taken a s = .next t) :
    ∃ t', shortBranch taken a (s.withFlags b c tr) = .next t' ∧ LeadsAlike s t (s.withFlags b c tr) t' := by
  cases taken <;> cases h
  · exact ⟨_, rfl, rfl, .inr ⟨rfl, rfl⟩, .inr ⟨rfl, rfl⟩, id⟩
  · exact ⟨_, rfl, rfl, .inr ⟨rfl, rfl⟩, .inr ⟨rfl, rfl⟩, by rintro rfl; rfl⟩

theorem longBranch_withFlags {taken : Bool} {w : Word} (h : longBranch taken w s = .next t) :
    ∃ t', longBranch taken w (s.withFlags b c tr) = .next t' ∧ LeadsAlike s t (s.withFlags b c tr) t' := by
  cases taken <;> cases h
  · exact ⟨_, rfl, rfl, .inr ⟨rfl, rfl⟩, .inr ⟨rfl, rfl⟩, id⟩
  · exact ⟨_, rfl, rfl, .inr ⟨rfl, rfl⟩, .inr ⟨rfl, rfl⟩, by rintro rfl; rfl⟩

theorem longSkip_withFlags {taken : Bool} (h : longSkip taken s = .next t) :
    ∃ t', longSkip taken (s.withFlags b c tr) = .next t' ∧ LeadsAlike s t (s.withFlags b c tr) t' := by
  cases taken <;> cases h <;> exact ⟨_, rfl, rfl, .inr ⟨rfl, rfl⟩, .inr ⟨rfl, rfl⟩, id⟩

/-- An instruction does the same whatever the trace, whatever `DF` unless it is a reader of `DF`, and whatever `IE` unless it
is LSIE. -/
theorem exec_withFlags {i : Instr} (hdf : opcode i ∈ dfReaders → b = s.df) (hie : opcode i = 0xCC → c = s.ie)
    (h : exec i s = .next t) :
    ∃ t', exec i (s.withFlags b c tr) = .next t' ∧ LeadsAlike s t (s.withFlags b c tr) t' := by
  cases i with
  | reserved68 => cases h
  | idl =>
    rw [exec_idl] at h ⊢
    cases h
    exact ⟨_, rfl, rfl, .inr ⟨rfl, rfl⟩, .inr ⟨rfl, rfl⟩, id⟩
  | inc | dec | irx | glo | ghi | plo | phi | sep | sex | req | seq | sav | mark | nop | nbr | nlbr =>
    cases h
    exact ⟨_, rfl, rfl, .inr ⟨rfl, rfl⟩, .inr ⟨rfl, rfl⟩, id⟩
  | ldn | lda | ldx | ldxa | ldi | str | stxd | or | and | xor | ori | ani | xri | inp | br | lbr =>
    cases h
    exact ⟨_, rfl, rfl, .inr ⟨rfl, rfl⟩, .inr ⟨rfl, rfl⟩, by rintro rfl; rfl⟩
  | bq | bz | b1 | b2 | b3 | b4 | bnq | bnz | bn1 | bn2 | bn3 => exact shortBranch_withFlags b c tr h
  | bdf | bnf => obtain rfl := hdf (by simp [opcode, dfReaders]); exact shortBranch_withFlags _ c tr h
  | lbq | lbz | lbnq | lbnz => exact longBranch_withFlags b c tr h
  | lbdf | lbnf => obtain rfl := hdf (by simp [opcode, dfReaders]); exact longBranch_withFlags _ c tr h
  | lsnq | lsnz | lsq | lsz => exact longSkip_withFlags b c tr h
  | lsnf | lsdf => obtain rfl := hdf (by decide); exact longSkip_withFlags _ c tr h
  | lsie => obtain rfl := hie rfl; exact longSkip_withFlags b _ tr h
  | shr | shl => cases h; exact ⟨_, rfl, rfl, .inl rfl, .inr ⟨rfl, rfl⟩, id⟩
  | shrc | shlc => obtain rfl := hdf (by decide); cases h; exact ⟨_, rfl, rfl, .inl rfl, .inr ⟨rfl, rfl⟩, id⟩
  | add | sd | sm | adi | sdi | smi =>
    cases h
    exact ⟨_, rfl, rfl, .inl rfl, .inr ⟨rfl, rfl⟩, by rintro rfl; rfl⟩
  | adc | sdb | smb | adci | sdbi | smbi =>
    obtain rfl := hdf (by simp [opcode, dfReaders])
    cases h
    exact ⟨_, rfl, rfl, .inl rfl, .inr ⟨rfl, rfl⟩, by rintro rfl; rfl⟩
  | ret | dis => cases h; exact ⟨_, rfl, rfl, .inr ⟨rfl, rfl⟩, .inl rfl, by rintro rfl; rfl⟩
  | bn4 a =>
    by_cases hc : (!s.ef4 && s.dbc != 0) = true
    · have ht : shortBranch true a (s.setDbc (s.dbc - 1)) = .next t := (if_pos hc).symm.trans h
      obtain ⟨t', ht', hl⟩ := shortBranch_withFlags b c tr ht
      exact ⟨t', (if_pos hc).trans ht', { hl with }⟩
    · have ht : shortBranch false a s = .next t := (if_neg hc).symm.trans h
      obtain ⟨t', ht', hl⟩ := shortBranch_withFlags b c tr ht
      exact ⟨t', (if_neg hc).trans ht', hl⟩
  | out p =>
    simp only [exec, execOut] at h ⊢
    split at h
    next hp =>
      cases h
      exact ⟨_, congrArg Host.Outcome.next (if_pos hp), rfl, .inr ⟨rfl, rfl⟩, .inr ⟨rfl, rfl⟩, by rintro rfl; rfl⟩
    next hp =>
      cases h
      exact ⟨_, congrArg Host.Outcome.next (if_neg hp), rfl, .inr ⟨rfl, rfl⟩, .inr ⟨rfl, rfl⟩, by rintro rfl; rfl⟩

end

section

variable {s t s' t' : State} (h : LeadsAlike s t s' t')
include h

/-- Runs that start with one value of a flag end with one value of it. -/
theorem LeadsAlike.df_eq (hdf : s'.df = s.df) : t'.df = t.df :=
  h.df.elim id (fun hk => hk.1.trans (hdf.trans hk.2.symm))

theorem LeadsAlike.ie_eq (hie : s'.ie = s.ie) : t'.ie = t.ie :=
  h.ie.elim id (fun hk => hk.1.trans (hie.trans hk.2.symm))

/-- Runs that start with a difference in one of the three items alone end with no other difference. -/
theorem LeadsAlike.eq_but_df (hie : s'.ie = s.ie) (htr : s'.trace = s.trace) : { t' with df := t.df } = t := by
  rw [h.rest, h.ie_eq hie, h.trace htr]; rfl

theorem LeadsAlike.eq_but_ie (hdf : s'.df = s.df) (htr : s'.trace = s.trace) : { t' with ie := t.ie } = t := by
  rw [h.rest, h.df_eq hdf, h.trace htr]; rfl

theorem LeadsAlike.eq_but_trace (hdf : s'.df = s.df) (hie : s'.ie = s.ie) : { t' with trace := t.trace } = t := by
  rw [h.rest, h.df_eq hdf, h.ie_eq hie]; rfl

end

/-! ### The trace and the step -/

/-- The fetch phase reads nothing of the trace, and writes `LAST_FETCH` of it. -/
theorem fetched_withTrace (s : State) (tr : Trace) (op : Byte) :
    State.fetched { s with trace := tr } op =
      (s.fetched op).withFlags (s.fetched op).df (s.fetched op).ie { tr with lastFetch := s.pc } := by
  simp only [fetched_eq]
  split_ifs <;> rfl

/-- No operation of the host reads or writes the trace (R50). -/
theorem hostOp_withTrace (s : State) (tr : Trace) (op : HostOp) :
    State.hostOp { s with trace := tr } op = { s.hostOp op with trace := tr } := by
  cases op with
  | setEf flag => cases flag <;> rfl
  | run limit start =>
    unfold State.hostOp State.enterRun State.runEntry
    dsimp only
    split <;> rfl
  | _ => rfl

theorem betweenRuns_withTrace (s : State) (tr : Trace) :
    State.betweenRuns { s with trace := tr } = { s.betweenRuns with trace := tr } := by
  cases hp : s.env.pending with
  | nil => rw [betweenRuns_nil hp]; exact betweenRuns_nil (s := { s with trace := tr }) hp
  | cons op later =>
    rw [betweenRuns_cons hp]
    exact (betweenRuns_cons (s := { s with trace := tr }) hp).trans
      (hostOp_withTrace { s with env := { s.env with pending := later } } tr op)

/-- The instruction that a step runs does the same whatever the trace. -/
theorem runInstr_withTrace {s t : State} (tr : Trace) (h : runInstr s = .next t) :
    ∃ t', runInstr { s with trace := tr } = .next t' ∧ { t' with trace := t.trace } = t := by
  obtain ⟨u, hu, rfl⟩ := finish_next h
  obtain ⟨u', hu', hl⟩ := exec_withFlags _ _ { tr with lastFetch := s.pc } (fun _ => rfl) (fun _ => rfl) hu
  rw [← fetched_withTrace] at hu'
  have halike : { u' with trace := u.trace } = u := hl.eq_but_trace rfl rfl
  have hrun : runInstr { s with trace := tr } =
      .next (if s.fetchOpcode = 0x00 then u' else u'.addCycles (cost s.fetchOpcode)) :=
    congrArg (finish s.fetchOpcode) hu'
  refine ⟨_, hrun, ?_⟩
  split
  · exact halike
  · exact congrArg (State.addCycles · (cost s.fetchOpcode)) halike

end Sys2Proof.Machine
end

section
/-! PROOFS. The statements on the state of the machine. -/

namespace Sys2Proof.Proofs

open Sys2Proof Sys2Proof.Machine

/-- Settles O11, by the cases of a step: what the host does, the two stops and the halt, and the chain of writes of an
instruction, whose cost is then added. -/
theorem stepKeepsTheInvariant : Obligations.StepKeepsTheInvariant := by
  unfold Obligations.StepKeepsTheInvariant
  intro s t hs h
  by_cases hr : s.rs = .running
  · obtain ⟨-, rfl⟩ | ⟨-, rfl⟩ | ⟨hf, -, rfl⟩ | ⟨hf, hop, u, hu, rfl⟩ := step_run_cases hr h
    · exact hs.congr rfl rfl rfl rfl rfl rfl
    · exact hs.congr rfl rfl rfl rfl rfl rfl
    · exact hs.afterHalt hf.2.2
    · have hw := writes_of_exec_fetchInstr hop hu
      have hbelow : (u.cyc : Int) < u.limit := by
        rw [hw.steadyItemsKept.cyc, hw.steadyItemsKept.limit]; exact hf.2.2
      have hfetched : ((s.noteFetch s.pc).passOpcode (s.peek s.pc)).Inv := hs.congr rfl rfl rfl rfl rfl rfl
      exact (hw.inv hfetched).addCycles (cost_le_three _) hbelow
  · rw [step_not_running hr] at h
    cases h
    exact hs.betweenRuns

/-- Settles O15: the stops and the halt write no input, and no chain of writes changes one. -/
theorem runLeavesTheInputs : Obligations.RunLeavesTheInputs := by
  unfold Obligations.RunLeavesTheInputs
  intro s t hr h
  obtain ⟨-, rfl⟩ | ⟨-, rfl⟩ | ⟨-, -, rfl⟩ | ⟨-, hop, u, hu, rfl⟩ := step_run_cases hr h
  iterate 3
    · exact ⟨rfl, rfl, rfl, rfl, rfl, rfl, rfl, rfl, rfl, rfl, rfl⟩
  · have hk := (writes_of_exec_fetchInstr hop hu).steadyItemsKept
    exact ⟨hk.ef1, hk.ef2, hk.ef3, hk.ef4, hk.mwe, hk.bus, hk.outDevs, hk.inNames, hk.limit, hk.env, hk.params⟩

/-- Settles O17: the stops and the halt change no control state, and a chain of writes only what its opcode byte allows. That
`DBC` goes down by 1 is read off BN4's meaning. -/
theorem controlStateWriters : Obligations.ControlStateWriters := by
  unfold Obligations.ControlStateWriters
  intro s t hr h
  obtain ⟨-, rfl⟩ | ⟨-, rfl⟩ | ⟨-, -, rfl⟩ | ⟨-, hop, u, hu, rfl⟩ := step_run_cases hr h
  iterate 3
    · refine ⟨?_, ?_, ?_, ?_, ?_, ?_, ?_, ?_⟩ <;> exact fun hne => absurd rfl hne
  · have hc := (writes_of_exec_fetchInstr hop hu).controlChanges
    refine ⟨hc.p, hc.x, hc.ie, hc.q, hc.disp, fun hne => ?_, hc.diag, hc.df⟩
    have hbn4 : s.peek s.pc = 0x3F := hc.dbc hne
    have hi : s.fetchInstr = .bn4 (s.peek (s.pc + 1)) := by rw [State.fetchInstr, hbn4]; rfl
    rw [hi] at hu
    exact ⟨hbn4, (exec_bn4_dbc hu).resolve_left hne⟩

/-- Settles O18: two runs that differ in one flag alone, by the theorem on runs that differ in the flags and the trace. -/
theorem carryAndEnableReaders : Obligations.CarryAndEnableReaders := by
  unfold Obligations.CarryAndEnableReaders
  intro i s t b h
  constructor
  · intro hop
    obtain ⟨t', ht', hl⟩ := exec_withFlags b s.ie s.trace (fun hr => absurd hr hop) (fun _ => rfl) h
    exact ⟨t', ht', hl.eq_but_df rfl rfl, hl.df⟩
  · intro hop
    obtain ⟨t', ht', hl⟩ := exec_withFlags s.df b s.trace (fun _ => rfl) (fun hr => absurd hr hop) h
    exact ⟨t', ht', hl.eq_but_ie rfl rfl, hl.ie⟩

/-- Settles O19, by the cases of a step: what the host does, the two stops, and the instruction. -/
theorem traceIsASideChannel : Obligations.TraceIsASideChannel := by
  unfold Obligations.TraceIsASideChannel
  intro s t tr h
  by_cases hr : s.rs = .running
  · obtain ⟨hd, rfl⟩ | ⟨hd, hl, rfl⟩ | ⟨hd, hl, -⟩ := step_running hr h
    · exact ⟨_, step_yields hr hd, rfl⟩
    · exact ⟨_, step_exhausts hr hd hl, rfl⟩
    · have hf : s.fetches := ⟨hr, hd, hl⟩
      have hf' : State.fetches { s with trace := tr } := hf
      rw [step_fetches hf] at h
      rw [step_fetches hf']
      exact runInstr_withTrace tr h
  · rw [step_not_running hr] at h
    cases h
    exact ⟨_, (step_not_running (s := { s with trace := tr }) hr).trans (congrArg _ (betweenRuns_withTrace s tr)), rfl⟩

/-- Settles O59: the fetch phase latches the low nibble, and no execute phase writes `N`. -/
theorem fetchLatchesTheLowNibble : Obligations.FetchLatchesTheLowNibble := by
  unfold Obligations.FetchLatchesTheLowNibble
  intro s t hr h
  obtain ⟨hnf, rfl⟩ | ⟨hnf, rfl⟩ | ⟨hf, hop, rfl⟩ | ⟨hf, hop, u, hu, rfl⟩ := step_run_cases hr h
  · exact ⟨fun hf => absurd hf hnf, fun _ => rfl⟩
  · exact ⟨fun hf => absurd hf hnf, fun _ => rfl⟩
  · constructor
    · intro _ hlatch
      have hlatch : s.params.haltLatchesN = true := hlatch.resolve_left (not_not.mpr hop)
      rw [hop]
      exact if_pos hlatch
    · intro hkeep
      have hkeep : s.params.haltLatchesN = false := (hkeep.resolve_left (not_not.mpr hf)).2
      exact if_neg (by simp [hkeep])
  · have hn : u.n = loNibble (s.peek s.pc) := (writes_of_exec_fetchInstr hop hu).steadyItemsKept.n
    exact ⟨fun _ _ => hn, fun hno => hno.elim (absurd hf) (fun h0 => absurd h0.1 hop)⟩

/-- Settles O53: between runs the step serves the request at the head of the queue. -/
theorem hostLevels : Obligations.HostLevels := by
  unfold Obligations.HostLevels
  intro s v later hr
  rw [step_not_running hr]
  refine ⟨?_, ?_, ?_, ?_, ?_, ?_⟩ <;> intro hp <;> rw [betweenRuns_cons hp] <;> rfl

/-- Settles O58: out of bounds every read gives 0xFF, so the instruction at `pc` is `SMI 0xFF`. -/
theorem fetchBeyondMemory : Obligations.FetchBeyondMemory := by
  unfold Obligations.FetchBeyondMemory
  intro s hf hpc hpc1
  have hop : s.peek s.pc = 0xFF := s.peek_beyond hpc
  have hi : s.fetchInstr = .smi 0xFF := by rw [State.fetchInstr, hop, s.peek_beyond hpc1]; rfl
  have hpass : s.fetched 0xFF = (s.noteFetch s.pc).passOpcode 0xFF := rfl
  refine ⟨(((s.noteFetch s.pc).passOpcode 0xFF).takeImm.setAlu (ofSum (subSum s.d 0xFF))).addCycles 2,
    ?_, ?_, ?_, ?_, rfl⟩
  · rw [step_fetches hf, runInstr, hi, State.fetchOpcode, hop, hpass]; rfl
  · exact BitVec.toNat_ofNat (s.d.toNat + 1) 8
  · have hmax : (s.d.toNat + 1 > 255) ↔ s.d = 0xFF := by bv_omega
    exact decide_eq_decide.mpr hmax
  · simp [State.pc]

end Sys2Proof.Proofs
end

section
/-! SUPPORT. What an instruction answers and what it does to memory: every instruction but the reserved byte's answers a next
state, and memory changes by the store of STR, STXD and INP alone. -/

namespace Sys2Proof.Machine

/-! ### Reads after a store -/

/-- The reads depend on the memory list and the parameters alone. -/
theorem State.peek_congr {s t : State} (hmem : t.mem = s.mem) (hparams : t.params = s.params) (a : Word) :
    t.peek a = s.peek a := by
  unfold State.peek; rw [hmem, hparams]

/-- A store out of bounds or with `MWE = 0` leaves the memory list as it was (R39). -/
theorem State.memWrite_mem_discarded {s : State} {a : Word} (v : Byte)
    (h : ¬(a.toNat < s.params.cap.val ∧ s.mwe = true)) : (s.memWrite a v).mem = s.mem :=
  if_neg (by simpa using h)

/-- A store that changes a byte is in bounds, with `MWE = 1`, at that byte's address (R39). -/
theorem State.memWrite_changes {s : State} {a b : Word} {v : Byte} (h : (s.memWrite a v).peek b ≠ s.peek b) :
    s.mwe = true ∧ b.toNat < s.params.cap.val ∧ b = a := by
  rw [State.peek_memWrite] at h
  obtain ⟨rfl, hcap, hmwe⟩ := (ite_ne_right_iff.mp h).1
  exact ⟨hmwe, hcap, rfl⟩

/-- A read after a host write: the byte written if it is in bounds, whatever `MWE` (R37, R50). -/
theorem State.peek_hostWrite (s : State) (a v : Nat) (b : Word) :
    (s.hostWrite a v).peek b =
      if b = BitVec.ofNat 16 a ∧ b.toNat < s.params.cap.val then BitVec.ofNat 8 v else s.peek b := by
  have haddr : b = BitVec.ofNat 16 a ↔ a % 65536 = b.toNat := by
    rw [← BitVec.toNat_inj, BitVec.toNat_ofNat]; exact eq_comm
  by_cases hcap : a % 65536 < s.params.cap.val
  · by_cases hb : a % 65536 = b.toNat
    · simp [State.peek, State.hostWrite, haddr, Memory.read_write, hb, hb ▸ hcap]
    · simp [State.peek, State.hostWrite, haddr, Memory.read_write, hb, hcap]
  · rw [if_neg (fun ⟨hb, hlt⟩ => hcap (haddr.mp hb ▸ hlt))]
    exact State.peek_congr (t := s.hostWrite a v) (if_neg hcap) rfl b

/-! ### The answer of an instruction -/

/-- `s` after the store that the instruction makes, if it makes one: the three instructions that write memory (R45, R52). -/
def State.afterStore (s : State) : Instr → State
  | .str n => s.memWrite (s.reg n) s.d
  | .stxd => s.memWrite s.rx s.d
  | .inp p => s.memWrite s.rx (s.portInByte p)
  | _ => s

theorem shortBranch_next_mem (c : Bool) (a : Byte) (s : State) : ∃ t, shortBranch c a s = .next t ∧ t.mem = s.mem := by
  cases c <;> exact ⟨_, rfl, rfl⟩

theorem longBranch_next_mem (c : Bool) (w : Word) (s : State) : ∃ t, longBranch c w s = .next t ∧ t.mem = s.mem := by
  cases c <;> exact ⟨_, rfl, rfl⟩

theorem longSkip_next_mem (c : Bool) (s : State) : ∃ t, longSkip c s = .next t ∧ t.mem = s.mem := by
  cases c <;> exact ⟨_, rfl, rfl⟩

/-- Every instruction but the reserved byte's answers a next state, with memory as its own store leaves it. -/
theorem exec_next_mem {i : Instr} (hi : i ≠ .reserved68) (s : State) :
    ∃ t, exec i s = .next t ∧ t.mem = (s.afterStore i).mem := by
  cases i with
  | reserved68 => exact absurd rfl hi
  | idl => exact ⟨_, exec_idl s, rfl⟩
  | str | stxd | inp => exact ⟨_, rfl, rfl⟩
  | ldn | lda | ldx | ldxa | ldi | inc | dec | irx | glo | ghi | plo | phi => exact ⟨_, rfl, rfl⟩
  | or | and | xor | ori | ani | xri | shr | shrc | shl | shlc => exact ⟨_, rfl, rfl⟩
  | add | adc | sd | sdb | sm | smb | adi | adci | sdi | sdbi | smi | smbi => exact ⟨_, rfl, rfl⟩
  | sep | sex | ret | dis | seq | req | nop | sav | mark | br | nbr | lbr | nlbr => exact ⟨_, rfl, rfl⟩
  | bq | bz | bdf | b1 | b2 | b3 | b4 | bnq | bnz | bnf | bn1 | bn2 | bn3 => exact shortBranch_next_mem _ _ s
  | lbq | lbz | lbdf | lbnq | lbnz | lbnf => exact longBranch_next_mem _ _ s
  | lsnq | lsnz | lsnf | lsie | lsq | lsz | lsdf => exact longSkip_next_mem _ s
  | bn4 a =>
    simp only [exec, execBn4]
    split
    · exact shortBranch_next_mem true a (s.setDbc (s.dbc - 1))
    · exact shortBranch_next_mem false a s
  | out p =>
    refine ⟨_, rfl, ?_⟩
    split <;> rfl

theorem exec_mem {i : Instr} {s t : State} (h : exec i s = .next t) : t.mem = (s.afterStore i).mem := by
  have hi : i ≠ .reserved68 := by rintro rfl; cases h
  obtain ⟨u, hu, hmem⟩ := exec_next_mem hi s
  cases hu.symm.trans h
  exact hmem

@[simp] theorem State.afterStore_params (s : State) (i : Instr) : (s.afterStore i).params = s.params := by
  cases i <;> rfl

/-- INP with a port from 1 to 7 has one of the opcode bytes that store at `R[X]`: STXD's, then INP's own (R55, R58). -/
theorem opcode_inp_mem {p : Port} (hp : p ≠ 0) :
    opcode (.inp p) ∈ [(0x73 : Byte), 0x69, 0x6A, 0x6B, 0x6C, 0x6D, 0x6E, 0x6F] := by
  revert p; decide

theorem loNibble_regOpcode (row n : Nibble) : loNibble (regOpcode row n) = n := by
  revert row n; decide

/-- The one byte that an instruction's store can change, and the opcode bytes of the instructions that store
(R39, R45, R52). -/
theorem State.afterStore_changes {s : State} {i : Instr} {a : Word} (hw : i.wellFormed = true)
    (h : (s.afterStore i).peek a ≠ s.peek a) :
    s.mwe = true ∧ a.toNat < s.params.cap.val ∧
      ((hiNibble (opcode i) = 0x5 ∧ a = s.reg (loNibble (opcode i))) ∨
        (opcode i ∈ [0x73, 0x69, 0x6A, 0x6B, 0x6C, 0x6D, 0x6E, 0x6F] ∧ a = s.rx)) := by
  cases i with
  | str n =>
    obtain ⟨hmwe, hcap, ha⟩ := State.memWrite_changes h
    refine ⟨hmwe, hcap, .inl ⟨hiNibble_regOpcode _ n, ?_⟩⟩
    rw [ha, opcode, loNibble_regOpcode]
  | stxd =>
    obtain ⟨hmwe, hcap, ha⟩ := State.memWrite_changes h
    exact ⟨hmwe, hcap, .inr ⟨by decide, ha⟩⟩
  | inp p =>
    obtain ⟨hmwe, hcap, ha⟩ := State.memWrite_changes h
    have hp : p ≠ 0 := by simpa [Instr.wellFormed] using hw
    exact ⟨hmwe, hcap, .inr ⟨opcode_inp_mem hp, ha⟩⟩
  | _ => exact absurd rfl h

/-! ### The answer of a step -/

/-- The instruction at `pc` is the reserved one exactly when the byte there is 0x68 (R58, R60). -/
theorem fetchInstr_eq_reserved68 (s : State) : s.fetchInstr = .reserved68 ↔ s.peek s.pc = 0x68 := by
  constructor
  · intro h; rw [← opcode_fetchInstr s, h]; rfl
  · intro h; rw [State.fetchInstr, h]; rfl

/-- A step that does not fetch answers a next state: the host's work between runs, or one of the two stops. -/
theorem step_next_of_not_fetches {s : State} (hf : ¬s.fetches) : ∃ t, step s = .next t := by
  by_cases hr : s.rs = .running
  · by_cases hd : s.disp = true
    · exact ⟨_, step_yields hr hd⟩
    · rw [Bool.not_eq_true] at hd
      exact ⟨_, step_exhausts hr hd (not_lt.mp fun hl => hf ⟨hr, hd, hl⟩)⟩
  · exact ⟨_, step_not_running hr⟩

/-- A step that fetches a byte other than 0x68 answers a next state. -/
theorem step_next_of_fetches {s : State} (hf : s.fetches) (hop : s.peek s.pc ≠ 0x68) : ∃ t, step s = .next t := by
  obtain ⟨u, hu, -⟩ := exec_next_mem (mt (fetchInstr_eq_reserved68 s).mp hop) (s.fetched s.fetchOpcode)
  exact ⟨_, by rw [step_fetches hf, runInstr, hu]; rfl⟩

/-- A step that fetches the byte 0x68 is refused (R60). -/
theorem step_refused_of_fetches {s : State} (hf : s.fetches) (hop : s.peek s.pc = 0x68) :
    step s = .refused .reservedOpcode := by
  rw [step_fetches hf, runInstr, (fetchInstr_eq_reserved68 s).mpr hop]; rfl

end Sys2Proof.Machine
end

section
/-! PROOFS. The statements on memory. -/

namespace Sys2Proof.Proofs

open Sys2Proof Sys2Proof.Machine

/-- Settles O13: a step answers a next state unless it fetches 0x68, and then it is refused. The type of faults is empty. -/
theorem onlyTheReservedByteStops : Obligations.OnlyTheReservedByteStops := by
  unfold Obligations.OnlyTheReservedByteStops
  intro s
  refine ⟨nofun, fun e => ?_⟩
  by_cases hstop : s.fetches ∧ s.peek s.pc = 0x68
  · rw [step_refused_of_fetches hstop.1 hstop.2]
    exact ⟨by rintro ⟨⟩; exact ⟨rfl, hstop⟩, fun h => h.1 ▸ rfl⟩
  · have hnext : ∃ t, step s = .next t := by
      by_cases hf : s.fetches
      · exact step_next_of_fetches hf fun hop => hstop ⟨hf, hop⟩
      · exact step_next_of_not_fetches hf
    obtain ⟨t, ht⟩ := hnext
    rw [ht]
    exact ⟨nofun, fun h => absurd h.2 hstop⟩

/-- Settles O20: the stops and the halt leave memory alone, and an instruction changes it by its own store only. -/
theorem memoryWriters : Obligations.MemoryWriters := by
  unfold Obligations.MemoryWriters
  intro s t a hr h hne
  obtain ⟨-, rfl⟩ | ⟨-, rfl⟩ | ⟨-, -, rfl⟩ | ⟨-, hop, u, hu, rfl⟩ := step_run_cases hr h
  iterate 3
    · exact absurd rfl hne
  · have hparams := (writes_of_exec_fetchInstr hop hu).steadyItemsKept.params
    have hpeek := State.peek_congr (exec_mem hu) (hparams.trans (State.afterStore_params _ _).symm) a
    have hstore := State.afterStore_changes (wellFormed_fetchInstr s) (hpeek ▸ hne)
    rwa [opcode_fetchInstr] at hstore

/-- Settles O21, by the law of a read after a store and the meanings of STXD and INP. -/
theorem storeOrDiscard : Obligations.StoreOrDiscard := by
  unfold Obligations.StoreOrDiscard
  intro s p
  refine ⟨fun a => rfl, fun a b v => ?_, fun hdiscard => ⟨?_, ?_⟩⟩
  · exact (s.peek_memWrite a v b).trans (if_congr (and_congr_left' eq_comm) rfl rfl)
  · exact ⟨_, rfl, State.memWrite_mem_discarded s.d hdiscard, State.reg_setReg_same _ _ _⟩
  · exact ⟨_, rfl, State.memWrite_mem_discarded (s := s.portInAsked p) _ hdiscard, rfl⟩

/-- Settles O22: between runs the step serves the request at the head of the queue. -/
theorem hostMemoryPort : Obligations.HostMemoryPort := by
  unfold Obligations.HostMemoryPort
  intro s a v later hr
  rw [step_not_running hr]
  constructor <;> intro hp <;> rw [betweenRuns_cons hp]
  · rfl
  · exact ⟨_, rfl, State.peek_hostWrite _ a v, rfl⟩

end Sys2Proof.Proofs
end

section
/-! SUPPORT. What the decoder reads from a list of bytes, and that the decoder of an opcode byte and the encoder invert each
other (R54 to R58). An instruction's operand bytes are a list; `decodeOp` takes the first two of it, 0 where there is none. -/

namespace Sys2Proof

open Sys2Proof.Machine (hiNibble joinBytes)

/-! ### The decoder on a list of bytes -/

/-- The instruction whose opcode byte is `op` and whose operand bytes are `operands`. -/
def decodeWith (op : Byte) (operands : List Byte) : Instr := decodeOp op (operands.headD 0) (operands.tail.headD 0)

/-- As many operand bytes as the table of R56 asks for are read, and what follows them is left over. -/
theorem decode_append {op : Byte} {operands : List Byte} (hlen : operands.length + 1 = instrLength op)
    (rest : List Byte) : decode (op :: (operands ++ rest)) = .ok (decodeWith op operands, rest) := by
  match operands with
  | [] => simp [decode, ← hlen, decodeWith]
  | [a] => simp [decode, ← hlen, decodeWith]
  | [a, b] => simp [decode, ← hlen, decodeWith]
  | _ :: _ :: _ :: _ =>
    have hlong := instrLength_cases op
    simp only [List.length_cons] at hlen
    omega

/-- With fewer bytes than the opcode byte asks for there is no instruction (R56). -/
theorem decode_truncated {op : Byte} {rest : List Byte} (hlen : rest.length + 1 < instrLength op) :
    decode (op :: rest) = .error (.truncated op) := by
  obtain hl | hl | hl := instrLength_cases op <;> rw [hl] at hlen
  · omega
  · obtain rfl : rest = [] := List.length_eq_zero_iff.mp (by omega)
    simp [decode, hl]
  · match rest with
    | [] => simp [decode, hl]
    | [a] => simp [decode, hl]
    | _ :: _ :: _ => simp only [List.length_cons] at hlen; omega

/-- With bytes enough, the operand bytes are the first of those that follow the opcode byte. -/
theorem decode_cons {op : Byte} {rest : List Byte} (hlen : instrLength op ≤ rest.length + 1) :
    decode (op :: rest) = .ok (decodeWith op (rest.take (instrLength op - 1)), rest.drop (instrLength op - 1)) := by
  have hpos := instrLength_cases op
  have htake : (rest.take (instrLength op - 1)).length + 1 = instrLength op := by
    rw [List.length_take]; omega
  simpa using decode_append htake (rest.drop (instrLength op - 1))

/-- All that decoding can have read when it answers an instruction. -/
theorem decode_ok {bytes rest : List Byte} {i : Instr} (h : decode bytes = .ok (i, rest)) :
    ∃ op operands, bytes = op :: (operands ++ rest) ∧ operands.length + 1 = instrLength op ∧
      i = decodeWith op operands := by
  match bytes with
  | [] => cases h
  | op :: tail =>
    by_cases hlen : instrLength op ≤ tail.length + 1
    · have hpos := instrLength_cases op
      rw [decode_cons hlen] at h
      cases h
      exact ⟨op, _, by rw [List.take_append_drop], by rw [List.length_take]; omega, rfl⟩
    · rw [decode_truncated (not_le.mp hlen)] at h
      cases h

/-! ### The operand bytes of a decoded instruction -/

theorem operandBytes_decodeRow3_isPrefix (n : Nibble) (a b : Byte) : operandBytes (decodeRow3 n a) <+: [a, b] := by
  unfold decodeRow3; split <;> simp [operandBytes]

theorem operandBytes_decodeRow6 (n : Nibble) : operandBytes (decodeRow6 n) = [] := by
  unfold decodeRow6; split_ifs <;> rfl

theorem operandBytes_decodeRow7_isPrefix (n : Nibble) (a b : Byte) : operandBytes (decodeRow7 n a) <+: [a, b] := by
  unfold decodeRow7; split <;> simp [operandBytes]

theorem operandBytes_decodeRowC_isPrefix (n : Nibble) (a b : Byte) :
    operandBytes (decodeRowC n (joinBytes a b)) <+: [a, b] := by
  unfold decodeRowC; split <;> simp [operandBytes]

theorem operandBytes_decodeRowF_isPrefix (n : Nibble) (a b : Byte) : operandBytes (decodeRowF n a) <+: [a, b] := by
  unfold decodeRowF; split <;> simp [operandBytes]

/-- The operand bytes of a decoded instruction are read from the front, the high byte of a target first (R43, R57). The cases
are the rows of the map of R58, row 0 first: outside rows 3, 7, C and F there is no operand byte. -/
theorem operandBytes_decodeOp_isPrefix (op a b : Byte) : operandBytes (decodeOp op a b) <+: [a, b] := by
  unfold decodeOp
  dsimp only
  split
  case h_1 => split_ifs <;> exact ⟨_, rfl⟩
  case h_4 => exact operandBytes_decodeRow3_isPrefix _ a b
  case h_7 => rw [operandBytes_decodeRow6]; exact ⟨_, rfl⟩
  case h_8 => exact operandBytes_decodeRow7_isPrefix _ a b
  case h_13 => exact operandBytes_decodeRowC_isPrefix _ a b
  case h_16 => exact operandBytes_decodeRowF_isPrefix _ a b
  all_goals exact ⟨_, rfl⟩

/-- There are as many of them as the table of R56 says. -/
theorem length_operandBytes_decodeOp (op a b : Byte) :
    (operandBytes (decodeOp op a b)).length + 1 = instrLength op := by
  revert op; exact of_decide_eq_true rfl

/-- A list of at most two bytes is the front of the two that `decodeWith` takes from it. -/
theorem take_firstTwo {bs : List Byte} (hlen : bs.length ≤ 2) : [bs.headD 0, bs.tail.headD 0].take bs.length = bs := by
  match bs with
  | [] => rfl
  | [_] => rfl
  | [_, _] => rfl

/-- No operand byte is dropped or changed: those of the decoded instruction are those it was decoded from (R57). -/
theorem operandBytes_decodeWith {op : Byte} {operands : List Byte} (hlen : operands.length + 1 = instrLength op) :
    operandBytes (decodeWith op operands) = operands := by
  have hcount : (operandBytes (decodeWith op operands)).length = operands.length :=
    Nat.succ_inj.mp ((length_operandBytes_decodeOp _ _ _).trans hlen.symm)
  have hpre : operandBytes (decodeWith op operands) <+: [operands.headD 0, operands.tail.headD 0] :=
    operandBytes_decodeOp_isPrefix _ _ _
  have ⟨unread, hunread⟩ := hpre
  calc operandBytes (decodeWith op operands)
      = [operands.headD 0, operands.tail.headD 0].take operands.length := by rw [← hunread, ← hcount, List.take_left]
    _ = operands := take_firstTwo (hcount ▸ hpre.length_le)

/-- The encoding of a decoded instruction is the bytes it was decoded from (R54, R57). -/
theorem encode_decodeWith {op : Byte} {operands : List Byte} (hlen : operands.length + 1 = instrLength op) :
    encode (decodeWith op operands) = op :: operands := by
  rw [encode, operandBytes_decodeWith hlen, decodeWith, opcode_decodeOp]

/-! ### The decoder on an encoding -/

/-- A well-formed instruction is decoded from its own opcode byte and operand bytes (R57, R58). A register number comes back
from the low nibble, a port number from its three low bits, a target from its halves, an operand byte as it stands; R58's
constraints are needed for LDN, OUT and INP. -/
theorem decodeWith_encode {i : Instr} (hw : i.wellFormed = true) : decodeWith (opcode i) (operandBytes i) = i := by
  cases i with
  | ldn n => revert n; decide
  | inc n | dec n | lda n | str n | glo n | ghi n | plo n | phi n | sep n | sex n => clear hw; revert n; decide
  | out p | inp p => revert p; decide
  | lbr t | lbq t | lbz t | lbdf t | nlbr t | lbnq t | lbnz t | lbnf t =>
    conv_rhs => rw [← joinBytes_halves t]
    dsimp only [opcode, operandBytes]; rfl
  | _ => dsimp only [opcode, operandBytes]; rfl

/-- The number of operand bytes of a well-formed instruction is the one that its opcode byte fixes (R54, R56). -/
theorem length_operandBytes {i : Instr} (hw : i.wellFormed = true) :
    (operandBytes i).length + 1 = instrLength (opcode i) := by
  have hlen : (operandBytes (decodeWith (opcode i) (operandBytes i))).length + 1 = instrLength (opcode i) :=
    length_operandBytes_decodeOp _ _ _
  rwa [decodeWith_encode hw] at hlen

/-! ### The table of lengths and the costs, by the number of the opcode byte -/

/-- The lengths as the table of R56 gives them, in which format `BR` is the range 0x30 to 0x3F. -/
theorem instrLength_eq_table (op : Byte) :
    instrLength op =
      if 0x30 ≤ op.toNat ∧ op.toNat ≤ 0x3F ∨ op ∈ [0x7C, 0x7D, 0x7F, 0xF8, 0xF9, 0xFA, 0xFB, 0xFC, 0xFD, 0xFF] then 2
      else if op ∈ [0xC0, 0xC1, 0xC2, 0xC3, 0xC8, 0xC9, 0xCA, 0xCB] then 3
      else 1 := by
  revert op; decide

/-- A row of the map of R58 is sixteen opcode bytes in a row. -/
theorem hiNibble_eq_iff (op : Byte) (row : Nibble) :
    hiNibble op = row ↔ 16 * row.toNat ≤ op.toNat ∧ op.toNat ≤ 16 * row.toNat + 15 := by
  rw [← BitVec.toNat_inj, hiNibble_toNat]; omega

/-- The costs as R62 gives them, by the range of the opcode byte. -/
theorem cost_eq (op : Byte) : cost op = if 0xC0 ≤ op.toNat ∧ op.toNat ≤ 0xCF then 3 else 2 :=
  if_congr (hiNibble_eq_iff op 0xC) rfl rfl

end Sys2Proof
end

section
/-! PROOFS. The statements on the encoding, the costs and the reserved byte. -/

namespace Sys2Proof.Proofs

open Sys2Proof Sys2Proof.Machine

/-- Settles O1: as many operand bytes are read as the encoding has, and the instruction is decoded from them. -/
theorem decodeOfEncode : Obligations.DecodeOfEncode := by
  unfold Obligations.DecodeOfEncode
  intro i rest hw
  have hdecode := decode_append (length_operandBytes hw) rest
  rwa [decodeWith_encode hw] at hdecode

/-- Settles O2: the bytes read are an opcode byte and its operand bytes, and these are the encoding of what is decoded. -/
theorem encodeOfDecode : Obligations.EncodeOfDecode := by
  unfold Obligations.EncodeOfDecode
  intro bytes rest i h
  obtain ⟨op, operands, rfl, hlen, rfl⟩ := decode_ok h
  exact ⟨wellFormed_decodeOp _ _ _, by rw [encode_decodeWith hlen, List.cons_append]⟩

/-- Settles O3: the length is the decoder's own, and the operand bytes are the first of the bytes that follow. -/
theorem opcodeFixesLength : Obligations.OpcodeFixesLength := by
  unfold Obligations.OpcodeFixesLength
  intro op rest
  rw [← instrLength_eq_table op]
  refine ⟨decode_truncated, fun hlen => ⟨_, decode_cons hlen, opcode_decodeOp _ _ _, ?_⟩⟩
  exact length_operandBytes_decodeOp _ _ _

/-- Settles O4, by decoding the thirteen words. -/
theorem knownWordsDecode : Obligations.KnownWordsDecode := by
  unfold Obligations.KnownWordsDecode
  exact ⟨rfl, rfl, rfl, rfl, rfl, rfl, rfl, rfl, rfl, rfl, rfl, rfl, rfl⟩

/-- Settles O14: no chain of writes changes `CYC`, and the cost is added after it. -/
theorem cycleCounterAddsTheCost : Obligations.CycleCounterAddsTheCost := by
  unfold Obligations.CycleCounterAddsTheCost
  refine ⟨cost_eq, fun s t hf h hop => ?_⟩
  obtain ⟨hnf, -⟩ | ⟨hnf, -⟩ | ⟨-, hhalt, -⟩ | ⟨-, -, u, hu, rfl⟩ := step_run_cases hf.1 h
  · exact absurd hf hnf
  · exact absurd hf hnf
  · exact absurd hhalt hop
  · have hcyc : u.cyc = s.cyc := (writes_of_exec_fetchInstr hop hu).steadyItemsKept.cyc
    rw [State.addCycles_cyc, hcyc, cost_eq]

/-- Settles O49: the reserved byte alone is its instruction's encoding, so the round trip of O1 decodes it, and its meaning
is the refusal. -/
theorem reservedByteRefused : Obligations.ReservedByteRefused := by
  unfold Obligations.ReservedByteRefused
  exact ⟨rfl, rfl, fun rest => decodeOfEncode .reserved68 rest rfl, fun _ => rfl⟩

end Sys2Proof.Proofs
end

section
/-! SUPPORT. Frames as chains of writes: each lemma lets one more write of `Machine/Ops.lean` follow, when the frame lists what
it writes. And the encoding and the cost of the instructions whose opcode byte holds a register number (R55, R62). -/

namespace Sys2Proof.Machine

/-! ### The frame of a chain of writes -/

section

variable {k : Touch} {s t : State}

theorem OnlyTouches.refl (k : Touch) (s : State) : OnlyTouches k s s := by
  constructor <;> intros <;> rfl

theorem OnlyTouches.setReg {n : Nibble} (h : OnlyTouches k s t) (hn : n ∈ k.regs) (v : Word) :
    OnlyTouches k s (t.setReg n v) :=
  { h with
    regs := fun m hm => (State.reg_setReg_other t n m v fun he => hm (he ▸ hn)).trans (h.regs m hm) }

theorem OnlyTouches.setD (h : OnlyTouches k s t) (hd : k.d = true) (v : Byte) : OnlyTouches k s (t.setD v) :=
  { h with d := fun hno => absurd (hd.symm.trans hno) nofun }

theorem OnlyTouches.noteRead (h : OnlyTouches k s t) (htrace : k.trace = true) (a : Word) :
    OnlyTouches k s (t.noteRead a) :=
  { h with trace := fun hno => absurd (htrace.symm.trans hno) nofun }

/-- The frame of one register write. -/
theorem onlyTouches_setReg (s : State) (n : Nibble) (v : Word) : OnlyTouches { regs := [n] } s (s.setReg n v) :=
  (OnlyTouches.refl _ s).setReg (List.mem_singleton_self n) v

/-- The frame of one write of `D`. -/
theorem onlyTouches_setD (s : State) (v : Byte) : OnlyTouches { d := true } s (s.setD v) :=
  (OnlyTouches.refl _ s).setD rfl v

end

/-! ### Opcode bytes that hold a register number -/

/-- The opcode byte is the first of its row plus the register number. -/
theorem regOpcode_eq_add (row n : Nibble) : regOpcode row n = (row ++ 0#4) + n.setWidth 8 := by
  revert row n; decide

theorem encode_of_regOpcode {i : Instr} {row n : Nibble} (hop : opcode i = regOpcode row n)
    (hnone : operandBytes i = []) : encode i = [(row ++ 0#4) + n.setWidth 8] := by
  rw [encode, hop, hnone, regOpcode_eq_add]

theorem cost_regOpcode {row : Nibble} (hrow : row ≠ 0xC) (n : Nibble) : cost (regOpcode row n) = 2 := by
  rw [cost, hiNibble_regOpcode, if_neg hrow]

end Sys2Proof.Machine
end

section
/-! SUPPORT. What each instruction of `spec/40_register_transfer.md` answers, its result as a number and its frame, and LDI's
answer, by which a value comes into `D`. -/

namespace Sys2Proof.Machine

theorem State.incReg_toNat (s : State) (n : Nibble) :
    ((s.incReg n).reg n).toNat = ((s.reg n).toNat + 1) % 65536 := by
  rw [State.incReg_eq, State.reg_setReg_same, BitVec.toNat_add]; rfl

theorem State.decReg_toNat (s : State) (n : Nibble) :
    (((s.decReg n).reg n).toNat : Int) = ((s.reg n).toNat - 1 : Int) % 65536 := by
  rw [State.decReg_eq, State.reg_setReg_same]; bv_omega

/-- GLO (R69). -/
theorem exec_glo_spec (n : Nibble) (s : State) :
    ∃ t, exec (.glo n) s = .next t ∧ t.d.toNat = (s.reg n).toNat % 256 ∧ OnlyTouches { d := true } s t :=
  ⟨s.setD (loByte (s.reg n)), rfl, loByte_toNat _, onlyTouches_setD s _⟩

/-- GHI (R70). -/
theorem exec_ghi_spec (n : Nibble) (s : State) :
    ∃ t, exec (.ghi n) s = .next t ∧ t.d.toNat = (s.reg n).toNat / 256 ∧ OnlyTouches { d := true } s t :=
  ⟨s.setD (hiByte (s.reg n)), rfl, hiByte_toNat _, onlyTouches_setD s _⟩

/-- PLO (R71). -/
theorem exec_plo_spec (n : Nibble) (s : State) :
    ∃ t, exec (.plo n) s = .next t ∧ (t.reg n).toNat = (s.reg n).toNat / 256 * 256 + s.d.toNat ∧
      OnlyTouches { regs := [n] } s t := by
  refine ⟨s.setReg n (joinBytes (hiByte (s.reg n)) s.d), rfl, ?_, onlyTouches_setReg s n _⟩
  rw [State.reg_setReg_same, joinBytes_toNat, hiByte_toNat]

/-- PHI (R72). -/
theorem exec_phi_spec (n : Nibble) (s : State) :
    ∃ t, exec (.phi n) s = .next t ∧ (t.reg n).toNat = s.d.toNat * 256 + (s.reg n).toNat % 256 ∧
      OnlyTouches { regs := [n] } s t := by
  refine ⟨s.setReg n (joinBytes s.d (loByte (s.reg n))), rfl, ?_, onlyTouches_setReg s n _⟩
  rw [State.reg_setReg_same, joinBytes_toNat, loByte_toNat]

/-- LDI (R79). -/
theorem exec_ldi_spec (k : Byte) (s : State) :
    ∃ t, exec (.ldi k) s = .next t ∧ t.d = k ∧ OnlyTouches { regs := [s.p], d := true, trace := true } s t :=
  ⟨((s.noteRead s.pc).setReg s.p (s.pc + 1)).setD k, rfl, rfl,
    (((OnlyTouches.refl _ s).noteRead rfl _).setReg (List.mem_singleton_self _) _).setD rfl _⟩

end Sys2Proof.Machine
end

section
/-! PROOFS. The statements on register transfer. -/

namespace Sys2Proof.Proofs

open Sys2Proof Sys2Proof.Machine

/-- Settles O23: each of the three is one register write, of a word sum that wraps. -/
theorem incDecResult : Obligations.IncDecResult := by
  unfold Obligations.IncDecResult
  intro n s
  refine ⟨⟨encode_of_regOpcode (row := 0x1) rfl rfl, cost_regOpcode (by decide) n, s.incReg n, rfl, ?_, ?_⟩,
    ⟨encode_of_regOpcode (row := 0x2) rfl rfl, cost_regOpcode (by decide) n, s.decReg n, rfl, ?_, ?_⟩,
    ⟨rfl, rfl, s.incReg s.x, rfl, ?_, ?_⟩⟩
  · exact s.incReg_toNat n
  · exact onlyTouches_setReg s n _
  · exact s.decReg_toNat n
  · exact onlyTouches_setReg s n _
  · exact s.incReg_toNat s.x
  · exact onlyTouches_setReg s s.x _

/-- Settles O24: the halves of a word are its quotient and remainder by 256. -/
theorem getHalfResult : Obligations.GetHalfResult := by
  unfold Obligations.GetHalfResult
  intro n s
  exact ⟨⟨encode_of_regOpcode (row := 0x8) rfl rfl, cost_regOpcode (by decide) n, exec_glo_spec n s⟩,
    ⟨encode_of_regOpcode (row := 0x9) rfl rfl, cost_regOpcode (by decide) n, exec_ghi_spec n s⟩⟩

/-- Settles O25: each of the two is one register write, of a word joined from `D` and the half that stays. -/
theorem putHalfResult : Obligations.PutHalfResult := by
  unfold Obligations.PutHalfResult
  intro n s
  exact ⟨⟨encode_of_regOpcode (row := 0xA) rfl rfl, cost_regOpcode (by decide) n, exec_plo_spec n s⟩,
    ⟨encode_of_regOpcode (row := 0xB) rfl rfl, cost_regOpcode (by decide) n, exec_phi_spec n s⟩⟩

/-- Settles O26: PLO sets the low half, PHI sets the high half and keeps the low one, and the second LDI, whose frame has no
register but `R[P]`, leaves `R[n]` alone between them. -/
theorem halvesRoundTrip : Obligations.HalvesRoundTrip := by
  unfold Obligations.HalvesRoundTrip
  intro n v s hn
  obtain ⟨t1, h1, hd1, hf1⟩ := exec_ldi_spec (v.setWidth 8) s
  obtain ⟨t2, h2, hplo, hf2⟩ := exec_plo_spec n t1
  obtain ⟨t3, h3, hd3, hf3⟩ := exec_ldi_spec ((v >>> 8).setWidth 8) t2
  obtain ⟨t4, h4, hphi, -⟩ := exec_phi_spec n t3
  obtain ⟨t5, h5, hglo, -⟩ := exec_glo_spec n t4
  obtain ⟨t6, h6, hghi, -⟩ := exec_ghi_spec n t4
  have hp : t2.p = s.p := (hf2.p rfl).trans (hf1.p rfl)
  have hkept : t3.reg n = t2.reg n := hf3.regs n fun hmem => hn ((List.mem_singleton.mp hmem).trans hp)
  have hreg : t4.reg n = v := by
    apply BitVec.eq_of_toNat_eq
    rw [hphi, hkept, hplo, hd1, hd3]
    bv_omega
  rw [hreg] at hglo hghi
  exact ⟨t1, t2, t3, t4, t5, t6, h1, h2, h3, h4, hreg, h5, hglo, h6, hghi⟩

end Sys2Proof.Proofs
end

section
/-! SUPPORT. What each instruction of `spec/41_load_store.md` answers and its frame, and the step that runs an instruction
which answers a next state. -/

namespace Sys2Proof.Machine

/-! ### The store (R39) -/

section

variable {k : Touch} {s t : State} {a : Word}

theorem OnlyTouches.memWrite (h : OnlyTouches k s t) (hmem : k.mem = some a) (htrace : k.trace = true) (v : Byte) :
    OnlyTouches k s (t.memWrite a v) :=
  { h with
    mem := fun b hb => by
      have hab : a ≠ b := fun he => hb (he ▸ hmem)
      rw [State.peek_memWrite, if_neg (fun hw => hab hw.1), h.mem b hb]
    trace := fun hno => absurd (htrace.symm.trans hno) nofun }

theorem State.peek_memWrite_stored (v : Byte) (hmwe : s.mwe = true) (hcap : a.toNat < s.params.cap.val) :
    (s.memWrite a v).peek a = v := by
  rw [State.peek_memWrite, if_pos ⟨rfl, hcap, hmwe⟩]

theorem State.memWrite_mem_of_mwe_off_or_beyond (v : Byte) (h : s.mwe = false ∨ s.params.cap.val ≤ a.toNat) :
    (s.memWrite a v).mem = s.mem := by
  refine State.memWrite_mem_discarded v fun ⟨hcap, hmwe⟩ => ?_
  cases h with
  | inl hoff => exact absurd (hmwe.symm.trans hoff) nofun
  | inr hbeyond => exact absurd hcap (not_lt.mpr hbeyond)

end

/-! ### Opcode bytes given as the row's first byte plus the register number -/

theorem regOpcode_zero (n : Nibble) : regOpcode 0x0 n = n.setWidth 8 := by
  rw [regOpcode_eq_add]; exact BitVec.zero_add _

theorem cost_row_add {row : Nibble} (hrow : row ≠ 0xC) (n : Nibble) : cost ((row ++ 0#4) + n.setWidth 8) = 2 := by
  rw [← regOpcode_eq_add, cost_regOpcode hrow]

/-! ### The loads -/

/-- The load through a register writes `D` and `LAST_RD` (R42, R75, R77). -/
theorem onlyTouches_loadFrom (s : State) (n : Nibble) :
    OnlyTouches { d := true, trace := true } s (s.loadFrom n) :=
  ((OnlyTouches.refl _ s).noteRead rfl _).setD rfl _

/-- The load with post-increment writes the register too (R76, R78). -/
theorem onlyTouches_loadFrom_incReg (s : State) (n : Nibble) :
    OnlyTouches { regs := [n], d := true, trace := true } s ((s.loadFrom n).incReg n) :=
  (((OnlyTouches.refl _ s).noteRead rfl _).setD rfl _).setReg (List.mem_singleton_self n) _

/-- LDN and LDX, each with its own register (R75, R77). -/
theorem load_spec {i : Instr} {n : Nibble} {s : State} (h : exec i s = .next (s.loadFrom n)) :
    ∃ t, exec i s = .next t ∧ t.d = s.peek (s.reg n) ∧ t.trace = { s.trace with lastRd := s.reg n } ∧
      OnlyTouches { d := true, trace := true } s t :=
  ⟨_, h, rfl, rfl, onlyTouches_loadFrom s n⟩

/-- LDA and LDXA, each with its own register: the address is the one before the increment (R76, R78). -/
theorem loadIncrement_spec {i : Instr} {n : Nibble} {s : State} (h : exec i s = .next ((s.loadFrom n).incReg n)) :
    ∃ t, exec i s = .next t ∧ t.d = s.peek (s.reg n) ∧ (t.reg n).toNat = ((s.reg n).toNat + 1) % 65536 ∧
      t.trace = { s.trace with lastRd := s.reg n } ∧
      OnlyTouches { regs := [n], d := true, trace := true } s t :=
  ⟨_, h, rfl, (s.loadFrom n).incReg_toNat n, rfl, onlyTouches_loadFrom_incReg s n⟩

/-! ### The immediate load -/

/-- LDI passes the operand byte and traces it (R79); what it loads and its frame are `exec_ldi_spec`. -/
theorem exec_ldi_pc_trace {k : Byte} {s t : State} (h : exec (.ldi k) s = .next t) :
    t.pc.toNat = (s.pc.toNat + 1) % 65536 ∧ t.trace = { s.trace with lastRd := s.pc } := by
  cases h
  exact ⟨s.incReg_toNat s.p, rfl⟩

/-- A step that fetches an instruction other than the halt answers what the instruction does after the fetch phase, with
its cost added (R162, R163). -/
theorem step_of_exec {s u : State} (hf : s.fetches) (hop : s.peek s.pc ≠ 0x00)
    (hu : exec s.fetchInstr ((s.noteFetch s.pc).passOpcode (s.peek s.pc)) = .next u) :
    step s = .next (u.addCycles (cost (s.peek s.pc))) := by
  rw [step_fetches hf, runInstr, State.fetchOpcode, State.fetched, if_neg hop, hu, finish, if_neg hop]

/-- After the fetch phase `pc` has passed the opcode byte (R162). -/
theorem State.pc_passOpcode (s : State) (op : Byte) : (s.passOpcode op).pc = s.pc + 1 :=
  State.reg_setReg_same s s.p _

/-! ### The stores -/

/-- STR (R80). -/
theorem exec_str (n : Nibble) (s : State) : exec (.str n) s = .next (s.memWrite (s.reg n) s.d) := rfl

/-- STXD (R81). -/
theorem exec_stxd (s : State) : exec .stxd s = .next ((s.memWrite (s.reg s.x) s.d).decReg s.x) := rfl

end Sys2Proof.Machine
end

section
/-! PROOFS. The statements on loads and stores. -/

namespace Sys2Proof.Proofs

open Sys2Proof Sys2Proof.Machine

/-- Settles O27: LDN and LDX are one load, LDA and LDXA the same load with an increment after it; the four differ in the
register and the opcode byte. -/
theorem loadResult : Obligations.LoadResult := by
  unfold Obligations.LoadResult
  intro n s e he f hf
  simp only [List.mem_cons, List.not_mem_nil, or_false] at he hf
  constructor
  · intro _
    obtain rfl | rfl := he
    · exact ⟨congrArg (fun op => [op]) (regOpcode_zero n),
        regOpcode_zero n ▸ cost_regOpcode (by decide) n, load_spec rfl⟩
    · exact ⟨rfl, cost_eq 0xF0, load_spec rfl⟩
  · obtain rfl | rfl := hf
    · exact ⟨encode_of_regOpcode (row := 0x4) rfl rfl, cost_row_add (row := 0x4) (by decide) n,
        loadIncrement_spec rfl⟩
    · exact ⟨rfl, cost_eq 0x72, loadIncrement_spec rfl⟩

/-- Settles O28: the decoded operand is the byte after the opcode byte, and LDI runs with `pc` at that byte. -/
theorem loadImmediateFromMemory : Obligations.LoadImmediateFromMemory := by
  unfold Obligations.LoadImmediateFromMemory
  constructor
  · intro k s
    obtain ⟨t, ht, hd, hframe⟩ := exec_ldi_spec k s
    obtain ⟨hpc, htrace⟩ := exec_ldi_pc_trace ht
    exact ⟨rfl, rfl, t, ht, hd, hpc, htrace, hframe⟩
  · intro s hf hop
    have hi : s.fetchInstr = .ldi (s.peek (s.pc + 1)) := by rw [State.fetchInstr, hop]; rfl
    obtain ⟨u, hu, hd, hframe⟩ :=
      exec_ldi_spec (s.peek (s.pc + 1)) ((s.noteFetch s.pc).passOpcode (s.peek s.pc))
    obtain ⟨hpc, -⟩ := exec_ldi_pc_trace hu
    have hstep := step_of_exec hf (by rw [hop]; decide) (hi ▸ hu)
    refine ⟨_, hstep, hd, ?_, ?_⟩
    · rw [State.addCycles_pc, hpc, State.pc_passOpcode, State.noteFetch_pc]
      bv_omega
    · rw [State.addCycles_cyc, hop, hframe.cyc rfl]; rfl

/-- Settles O29: STR is one store, performed or discarded. -/
theorem storeThroughRegister : Obligations.StoreThroughRegister := by
  unfold Obligations.StoreThroughRegister
  intro n s
  refine ⟨encode_of_regOpcode (row := 0x5) rfl rfl, cost_regOpcode (by decide) n, _, exec_str n s, ?_, ?_, rfl, ?_⟩
  · exact State.peek_memWrite_stored s.d
  · exact State.memWrite_mem_of_mwe_off_or_beyond s.d
  · exact (OnlyTouches.refl _ s).memWrite rfl rfl s.d

/-- Settles O30: STXD is one store, performed or discarded, and then one register write, which no byte of memory sees. -/
theorem storeAndDecrement : Obligations.StoreAndDecrement := by
  unfold Obligations.StoreAndDecrement
  intro s
  refine ⟨rfl, rfl, _, exec_stxd s, ?_, ?_, ?_, rfl, ?_⟩
  · exact State.peek_memWrite_stored s.d
  · exact State.memWrite_mem_of_mwe_off_or_beyond s.d
  · exact (s.memWrite (s.reg s.x) s.d).decReg_toNat s.x
  · exact ((OnlyTouches.refl _ s).memWrite rfl rfl s.d).setReg (List.mem_singleton_self s.x) _

end Sys2Proof.Proofs
end

section
/-! SUPPORT. What each instruction of `spec/42_logic_shift.md` answers, its result and its frame, and the operand byte and the
flag write that it shares with the arithmetic. -/

namespace Sys2Proof.Machine

/-! ### The frames -/

section

variable {k : Touch} {s t : State}

theorem OnlyTouches.setDF (h : OnlyTouches k s t) (hdf : k.df = true) (v : Bool) : OnlyTouches k s (t.setDF v) :=
  { h with df := fun hno => absurd (hdf.symm.trans hno) nofun }

theorem OnlyTouches.setAlu (h : OnlyTouches k s t) (hd : k.d = true) (hdf : k.df = true) (r : Byte × Bool) :
    OnlyTouches k s (t.setAlu r) :=
  (h.setDF hdf r.2).setD hd r.1

/-- The read of the operand byte writes `R[P]` and `LAST_RD` (R10, R42). -/
theorem OnlyTouches.takeImm (h : OnlyTouches k s t) (hreg : t.p ∈ k.regs) (htrace : k.trace = true) :
    OnlyTouches k s t.takeImm :=
  (h.noteRead htrace _).setReg hreg _

end

/-! ### The logic (R82 to R88) -/

/-- The operand byte is passed by the program counter (R10). -/
theorem State.takeImm_pc_toNat (s : State) : s.takeImm.pc.toNat = (s.pc.toNat + 1) % 65536 :=
  s.incReg_toNat s.p

section

variable {i : Instr} {s : State} {f : Byte → Byte → Byte} {g : Bool → Bool → Bool}

/-- OR, AND and XOR, each with the operation `f` on bytes that is `g` on every bit (R83 to R85). -/
theorem exec_logicMem_spec (h : exec i s = logicMem f s)
    (hbit : ∀ (m d : Byte) (j : Nat), (f m d).getLsbD j = g (m.getLsbD j) (d.getLsbD j)) :
    ∃ t, exec i s = .next t ∧
      (∀ j : Nat, j < 8 → t.d.getLsbD j = g ((s.peek (s.reg s.x)).getLsbD j) (s.d.getLsbD j)) ∧
      t.trace = { s.trace with lastRd := s.reg s.x } ∧ OnlyTouches { d := true, trace := true } s t :=
  ⟨_, h, fun j _ => hbit _ _ j, rfl, ((OnlyTouches.refl _ s).noteRead rfl _).setD rfl _⟩

/-- ORI, ANI and XRI, in the same way (R86 to R88). -/
theorem exec_logicImm_spec {m : Byte} (h : exec i s = logicImm f m s)
    (hbit : ∀ (m d : Byte) (j : Nat), (f m d).getLsbD j = g (m.getLsbD j) (d.getLsbD j)) :
    ∃ t, exec i s = .next t ∧ (∀ j : Nat, j < 8 → t.d.getLsbD j = g (m.getLsbD j) (s.d.getLsbD j)) ∧
      t.pc.toNat = (s.pc.toNat + 1) % 65536 ∧ t.trace = { s.trace with lastRd := s.pc } ∧
      OnlyTouches { regs := [s.p], d := true, trace := true } s t :=
  ⟨_, h, fun j _ => hbit _ _ j, s.takeImm_pc_toNat, rfl,
    ((OnlyTouches.refl _ s).takeImm (List.mem_singleton_self s.p) rfl).setD rfl _⟩

end

/-! ### The shifts as numbers (R89 to R93) -/

theorem toNat_append_eq_mul_add {m n : Nat} (x : BitVec m) (y : BitVec n) :
    (x ++ y).toNat = x.toNat * 2 ^ n + y.toNat := by
  rw [BitVec.toNat_append, ← Nat.shiftLeft_add_eq_or_of_lt y.isLt, Nat.shiftLeft_eq]

/-- The bit that a right shift moves out. -/
theorem getLsbD_zero_eq (d : Byte) : d.getLsbD 0 = decide (d.toNat % 2 = 1) := by
  rw [BitVec.getLsbD, Nat.testBit_zero]

/-- The bit that a left shift moves out. -/
theorem getLsbD_seven_eq (d : Byte) : d.getLsbD 7 = decide (128 ≤ d.toNat) :=
  (BitVec.msb_eq_getLsbD_last d).symm.trans (BitVec.msb_eq_decide d)

theorem shiftRightCarry_toNat (d : Byte) (c : Bool) :
    (shiftRightCarry d c).1.toNat = c.toNat * 128 + d.toNat / 2 := by
  have hd := d.isLt
  rw [shiftRightCarry, toNat_append_eq_mul_add, BitVec.toNat_ofBool, BitVec.extractLsb'_toNat,
    Nat.shiftRight_eq_div_pow]
  omega

theorem shiftLeftCarry_toNat (d : Byte) (c : Bool) :
    (shiftLeftCarry d c).1.toNat = d.toNat * 2 % 256 + c.toNat := by
  rw [shiftLeftCarry, toNat_append_eq_mul_add, BitVec.toNat_ofBool, BitVec.extractLsb'_toNat, Nat.shiftRight_zero]
  omega

/-- SHR and SHL shift a 0 in (R90, R92). -/
theorem shiftRight_eq_shiftRightCarry (d : Byte) : shiftRight d = shiftRightCarry d false := rfl

theorem shiftLeft_eq_shiftLeftCarry (d : Byte) : shiftLeft d = shiftLeftCarry d false := rfl

theorem shiftRight_toNat (d : Byte) : (shiftRight d).1.toNat = d.toNat / 2 := by
  rw [shiftRight_eq_shiftRightCarry, shiftRightCarry_toNat, Bool.toNat_false, Nat.zero_mul, Nat.zero_add]

theorem shiftLeft_toNat (d : Byte) : (shiftLeft d).1.toNat = d.toNat * 2 % 256 := by
  rw [shiftLeft_eq_shiftLeftCarry, shiftLeftCarry_toNat, Bool.toNat_false, Nat.add_zero]

/-! ### The shifts as instructions -/

/-- An instruction that writes `D` and `DF` alone. -/
theorem onlyTouches_setAlu (s : State) (r : Byte × Bool) : OnlyTouches { d := true, df := true } s (s.setAlu r) :=
  (OnlyTouches.refl _ s).setAlu rfl rfl r

/-- SHR (R90). -/
theorem exec_shr_spec (s : State) :
    ∃ t, exec .shr s = .next t ∧ t.d.toNat = s.d.toNat / 2 ∧ t.df = decide (s.d.toNat % 2 = 1) ∧
      OnlyTouches { d := true, df := true } s t :=
  ⟨s.setAlu (shiftRight s.d), rfl, shiftRight_toNat s.d, getLsbD_zero_eq s.d, onlyTouches_setAlu s _⟩

/-- SHRC (R91). -/
theorem exec_shrc_spec (s : State) :
    ∃ t, exec .shrc s = .next t ∧ t.d.toNat = s.df.toNat * 128 + s.d.toNat / 2 ∧
      t.df = decide (s.d.toNat % 2 = 1) ∧ OnlyTouches { d := true, df := true } s t :=
  ⟨s.setAlu (shiftRightCarry s.d s.df), rfl, shiftRightCarry_toNat s.d s.df, getLsbD_zero_eq s.d,
    onlyTouches_setAlu s _⟩

/-- SHL (R92). -/
theorem exec_shl_spec (s : State) :
    ∃ t, exec .shl s = .next t ∧ t.d.toNat = s.d.toNat * 2 % 256 ∧ t.df = decide (128 ≤ s.d.toNat) ∧
      OnlyTouches { d := true, df := true } s t :=
  ⟨s.setAlu (shiftLeft s.d), rfl, shiftLeft_toNat s.d, getLsbD_seven_eq s.d, onlyTouches_setAlu s _⟩

/-- SHLC (R93). -/
theorem exec_shlc_spec (s : State) :
    ∃ t, exec .shlc s = .next t ∧ t.d.toNat = s.d.toNat * 2 % 256 + s.df.toNat ∧
      t.df = decide (128 ≤ s.d.toNat) ∧ OnlyTouches { d := true, df := true } s t :=
  ⟨s.setAlu (shiftLeftCarry s.d s.df), rfl, shiftLeftCarry_toNat s.d s.df, getLsbD_seven_eq s.d,
    onlyTouches_setAlu s _⟩

end Sys2Proof.Machine
end

section
/-! PROOFS. The statements on logic and shifts. -/

namespace Sys2Proof.Proofs

open Sys2Proof Sys2Proof.Machine

/-- Settles O31: the three memory forms and the three immediate forms differ in the opcode byte and in the operation, which acts
on each bit by itself. -/
theorem logicResult : Obligations.LogicResult := by
  unfold Obligations.LogicResult
  intro k s
  simp only [List.forall_mem_cons, List.not_mem_nil, false_imp_iff, implies_true, and_true]
  refine ⟨⟨?or, ?and, ?xor⟩, ⟨?ori, ?ani, ?xri⟩⟩
  case or => exact ⟨rfl, rfl, exec_logicMem_spec rfl fun _ _ _ => BitVec.getLsbD_or⟩
  case and => exact ⟨rfl, rfl, exec_logicMem_spec rfl fun _ _ _ => BitVec.getLsbD_and⟩
  case xor => exact ⟨rfl, rfl, exec_logicMem_spec rfl fun _ _ _ => BitVec.getLsbD_xor⟩
  case ori => exact ⟨rfl, rfl, exec_logicImm_spec rfl fun _ _ _ => BitVec.getLsbD_or⟩
  case ani => exact ⟨rfl, rfl, exec_logicImm_spec rfl fun _ _ _ => BitVec.getLsbD_and⟩
  case xri => exact ⟨rfl, rfl, exec_logicImm_spec rfl fun _ _ _ => BitVec.getLsbD_xor⟩

/-- Settles O32: a shift of the byte is a division or a product by 2, with the bit moved in as the summand. -/
theorem shiftResult : Obligations.ShiftResult := by
  unfold Obligations.ShiftResult
  intro s
  exact ⟨⟨rfl, rfl, exec_shr_spec s⟩, ⟨rfl, rfl, exec_shrc_spec s⟩, ⟨rfl, rfl, exec_shl_spec s⟩,
    ⟨rfl, rfl, exec_shlc_spec s⟩⟩

/-- Settles O33: in either pair the right shift moves out what the left shift moved in; in the rotates it also moves in, from
`DF`, the bit 7 that the left shift moved out. -/
theorem shiftPairs : Obligations.ShiftPairs := by
  unfold Obligations.ShiftPairs
  intro s
  have hlt : s.d.toNat < 256 := s.d.isLt
  constructor
  · obtain ⟨t, ht, htd, htdf, -⟩ := exec_shl_spec s
    obtain ⟨u, hu, hud, hudf, -⟩ := exec_shr_spec t
    refine ⟨t, u, ht, hu, htdf, ?_, ?_⟩
    · rw [hud, htd]; omega
    · rw [hudf, htd, decide_eq_false_iff_not]; omega
  · obtain ⟨t, ht, htd, htdf, -⟩ := exec_shlc_spec s
    obtain ⟨u, hu, hud, hudf, -⟩ := exec_shrc_spec t
    refine ⟨t, u, ht, hu, htdf, BitVec.eq_of_toNat_eq ?_, ?_⟩
    · have hcarry : t.df.toNat = s.d.toNat / 128 := by
        rw [htdf, Bool.toNat, Bool.cond_decide]; split <;> omega
      have hin := s.df.toNat_le
      rw [hud, htd, hcarry]; omega
    · have hlow : (s.d.toNat * 2 % 256 + s.df.toNat) % 2 = s.df.toNat := by
        have hin := s.df.toNat_le
        omega
      rw [hudf, htd, hlow]
      simp only [Bool.toNat_eq_one, Bool.decide_eq_true]

end Sys2Proof.Proofs
end

section
/-! SUPPORT. What each instruction of `spec/43_arithmetic.md` answers, its result and its frame; the sums with a borrow in as
subtractions; and the sums of the low and of the high bytes as one sum of words. -/

namespace Sys2Proof.Machine

/-! ### The sums of R95 -/

theorem ofSum_toNat (n : Nat) : (ofSum n).1.toNat = n % 256 := BitVec.toNat_ofNat n 8

/-- The borrow in is `1 - DF`, and is taken off before the overflow check (R103, R107). -/
theorem subBorrowSum_eq (p q : Byte) (df : Bool) : subBorrowSum p q df = subSum p q - (1 - df.toNat) := by
  cases df <;> rfl

section

variable {p q : Byte} {borrow : Nat}

theorem subSum_sub_mod (hborrow : borrow ≤ 1) :
    (((subSum p q - borrow) % 256 : Nat) : Int) = (p.toNat - q.toNat - borrow : Int) % 256 := by
  have hq := q.isLt
  rw [subSum]; omega

/-- `DF` after a subtraction is "no borrow". -/
theorem subSum_sub_gt (hborrow : borrow ≤ 1) : subSum p q - borrow > 255 ↔ q.toNat + borrow ≤ p.toNat := by
  have hq := q.isLt
  rw [subSum]; omega

end

/-! ### The additions (R97 to R100) and, with a sum that is a difference, the subtractions (R101 to R108) -/

section

variable {i : Instr} {s : State} {f : Byte → Byte → Bool → Nat} {n : Nat}

/-- The six memory forms, each with its own sum `n`. -/
theorem exec_arithMem_spec (h : exec i s = arithMem f s) (hsum : f (s.peek (s.reg s.x)) s.d s.df = n) :
    ∃ u, exec i s = .next u ∧ u.d.toNat = n % 256 ∧ u.df = decide (n > 255) ∧
      u.trace = { s.trace with lastRd := s.reg s.x } ∧ OnlyTouches { d := true, df := true, trace := true } s u := by
  subst hsum
  exact ⟨_, h, ofSum_toNat _, rfl, rfl, ((OnlyTouches.refl _ s).noteRead rfl _).setAlu rfl rfl _⟩

/-- The six immediate forms, in the same way. -/
theorem exec_arithImm_spec {m : Byte} (h : exec i s = arithImm f m s) (hsum : f m s.d s.df = n) :
    ∃ u, exec i s = .next u ∧ u.d.toNat = n % 256 ∧ u.df = decide (n > 255) ∧
      u.pc.toNat = (s.pc.toNat + 1) % 65536 ∧ u.trace = { s.trace with lastRd := s.pc } ∧
      OnlyTouches { regs := [s.p], d := true, df := true, trace := true } s u := by
  subst hsum
  exact ⟨_, h, ofSum_toNat _, rfl, s.takeImm_pc_toNat, rfl,
    ((OnlyTouches.refl _ s).takeImm (List.mem_singleton_self s.p) rfl).setAlu rfl rfl _⟩

variable {p q : Byte} {borrow : Nat}

/-- SM, SMB, SD and SDB: the subtraction of `q` from `p`, with its borrow in. -/
theorem exec_subMem_spec (h : exec i s = arithMem f s)
    (hsum : f (s.peek (s.reg s.x)) s.d s.df = subSum p q - borrow) (hborrow : borrow ≤ 1) :
    ∃ u, exec i s = .next u ∧ u.d.toNat = (subSum p q - borrow) % 256 ∧ u.df = decide (subSum p q - borrow > 255) ∧
      (u.d.toNat : Int) = (p.toNat - q.toNat - borrow : Int) % 256 ∧ (u.df = true ↔ q.toNat + borrow ≤ p.toNat) ∧
      u.trace = { s.trace with lastRd := s.reg s.x } ∧ OnlyTouches { d := true, df := true, trace := true } s u := by
  obtain ⟨u, hu, hd, hdf, hrest⟩ := exec_arithMem_spec h hsum
  refine ⟨u, hu, hd, hdf, ?_, ?_, hrest⟩
  · rw [hd]; exact subSum_sub_mod hborrow
  · rw [hdf, decide_eq_true_iff]; exact subSum_sub_gt hborrow

/-- SMI, SMBI, SDI and SDBI, in the same way. -/
theorem exec_subImm_spec {m : Byte} (h : exec i s = arithImm f m s)
    (hsum : f m s.d s.df = subSum p q - borrow) (hborrow : borrow ≤ 1) :
    ∃ u, exec i s = .next u ∧ u.d.toNat = (subSum p q - borrow) % 256 ∧ u.df = decide (subSum p q - borrow > 255) ∧
      (u.d.toNat : Int) = (p.toNat - q.toNat - borrow : Int) % 256 ∧ (u.df = true ↔ q.toNat + borrow ≤ p.toNat) ∧
      u.pc.toNat = (s.pc.toNat + 1) % 65536 ∧ u.trace = { s.trace with lastRd := s.pc } ∧
      OnlyTouches { regs := [s.p], d := true, df := true, trace := true } s u := by
  obtain ⟨u, hu, hd, hdf, hrest⟩ := exec_arithImm_spec h hsum
  refine ⟨u, hu, hd, hdf, ?_, ?_, hrest⟩
  · rw [hd]; exact subSum_sub_mod hborrow
  · rw [hdf, decide_eq_true_iff]; exact subSum_sub_gt hborrow

end

/-! ### Words of two bytes (R109) -/

section

variable {f g : Byte → Byte → Bool → Nat} {a b w : Word} {c : Bool}

/-- The sum `f` of the low bytes of `a` and `b`, and then the sum `g` of their high bytes with the `DF` that `f` left, make
the word `w` and leave the flag `c`. The other operand, `b`, is the first argument, as in `arithMem`. -/
def PairComputes (f g : Byte → Byte → Bool → Nat) (a b w : Word) (c : Bool) : Prop :=
  ∀ (df : Bool) (lo hi : Byte × Bool), lo = ofSum (f (b.setWidth 8) (a.setWidth 8) df) →
    hi = ofSum (g ((b >>> 8).setWidth 8) ((a >>> 8).setWidth 8) lo.2) → joinBytes hi.1 lo.1 = w ∧ hi.2 = c

theorem lowByte_toNat (w : Word) : (w.setWidth 8).toNat = w.toNat % 256 := BitVec.toNat_setWidth 8 w

theorem highByte_toNat (w : Word) : ((w >>> 8).setWidth 8).toNat = w.toNat / 256 := by
  have hw := w.isLt
  rw [BitVec.toNat_setWidth, BitVec.toNat_ushiftRight, Nat.shiftRight_eq_div_pow]; omega

/-- The flag that a sum of two bytes leaves is the digit that the byte loses. -/
theorem ofSum_carry_toNat {n : Nat} (hn : n < 512) : (ofSum n).2.toNat = n / 256 := by
  rw [ofSum, Bool.toNat, Bool.cond_decide]; split <;> omega

/-- The carry out of the low bytes goes into the sum of the high bytes. -/
theorem pairComputes_add (a b : Word) :
    PairComputes (fun m d _ => addSum m d) addCarrySum a b (a + b) (decide (a.toNat + b.toNat > 65535)) := by
  rintro - lo hi rfl rfl
  beta_reduce
  have ha := a.isLt
  have hb := b.isLt
  have hcarry : (ofSum (addSum (b.setWidth 8) (a.setWidth 8))).2.toNat = (b.toNat % 256 + a.toNat % 256) / 256 := by
    rw [addSum, lowByte_toNat, lowByte_toNat]
    exact ofSum_carry_toNat (by omega)
  constructor
  · apply BitVec.eq_of_toNat_eq
    rw [joinBytes_toNat, ofSum_toNat, ofSum_toNat, addCarrySum, hcarry, addSum, BitVec.toNat_add,
      highByte_toNat, highByte_toNat, lowByte_toNat, lowByte_toNat]
    omega
  · rw [ofSum, decide_eq_decide, addCarrySum, hcarry, highByte_toNat, highByte_toNat]
    omega

/-- The schoolbook subtraction of two digits: what the high digit loses is the borrow of the low digit. -/
theorem sub_twoDigits {ph pl qh ql : Nat} (hph : ph < 256) (hpl : pl < 256) (hqh : qh < 256) (hql : ql < 256) :
    (ph + (255 - qh) + 1 - (1 - (pl + (255 - ql) + 1) / 256)) % 256 * 256 + (pl + (255 - ql) + 1) % 256 =
      (65536 - (qh * 256 + ql) + (ph * 256 + pl)) % 65536 := by
  obtain hborrow | hborrow := lt_or_ge pl ql
  · have hcarry : (pl + (255 - ql) + 1) / 256 = 0 := by omega
    rw [hcarry]; omega
  · have hcarry : (pl + (255 - ql) + 1) / 256 = 1 := by omega
    rw [hcarry]; omega

/-- A borrow out of the low bytes, `DF = 0`, is taken off the difference of the high bytes. `SM` and `SMB` subtract the other
operand, `SD` and `SDB` subtract `D`. -/
theorem subPair (p q : Word) {lo hi : Byte × Bool} (hlo : lo = ofSum (subSum (p.setWidth 8) (q.setWidth 8)))
    (hhi : hi = ofSum (subBorrowSum ((p >>> 8).setWidth 8) ((q >>> 8).setWidth 8) lo.2)) :
    joinBytes hi.1 lo.1 = p - q ∧ hi.2 = decide (q.toNat ≤ p.toNat) := by
  subst hlo hhi
  have hp := p.isLt
  have hq := q.isLt
  have hcarry : (ofSum (subSum (p.setWidth 8) (q.setWidth 8))).2.toNat =
      (p.toNat % 256 + (255 - q.toNat % 256) + 1) / 256 := by
    rw [subSum, lowByte_toNat, lowByte_toNat]
    exact ofSum_carry_toNat (by omega)
  constructor
  · apply BitVec.eq_of_toNat_eq
    rw [joinBytes_toNat, ofSum_toNat, ofSum_toNat, subBorrowSum_eq, hcarry, subSum, subSum, BitVec.toNat_sub,
      highByte_toNat, highByte_toNat, lowByte_toNat, lowByte_toNat, sub_twoDigits]
    all_goals omega
  · rw [ofSum, decide_eq_decide, subBorrowSum_eq, hcarry, subSum, highByte_toNat, highByte_toNat]
    omega

theorem pairComputes_subMem (a b : Word) :
    PairComputes (fun m d _ => subSum d m) (fun m d df => subBorrowSum d m df) a b (a - b)
      (decide (b.toNat ≤ a.toNat)) :=
  fun _ _ _ => subPair a b

theorem pairComputes_subFromMem (a b : Word) :
    PairComputes (fun m d _ => subSum m d) (fun m d df => subBorrowSum m d df) a b (b - a)
      (decide (a.toNat ≤ b.toNat)) :=
  fun _ _ _ => subPair b a

variable {i j : Instr} {s : State}

/-- Two memory forms, with any state between that keeps `DF`. -/
theorem PairComputes.exec_mem (h : PairComputes f g a b w c) (hi : ∀ s, exec i s = arithMem f s)
    (hj : ∀ s, exec j s = arithMem g s) (hd : s.d = a.setWidth 8) (hm : s.peek (s.reg s.x) = b.setWidth 8) :
    ∃ t, exec i s = .next t ∧ ∀ u : State, u.df = t.df → u.d = (a >>> 8).setWidth 8 →
      u.peek (u.reg u.x) = (b >>> 8).setWidth 8 → ∃ v, exec j u = .next v ∧ v.d ++ t.d = w ∧ v.df = c := by
  refine ⟨_, hi s, fun u hdf hud hum => ⟨_, hj u, h s.df (ofSum _) (ofSum _) ?_ ?_⟩⟩
  · rw [← hd, ← hm]; rfl
  · rw [← hud, ← hum]; exact congrArg (fun df => ofSum (g _ u.d df)) hdf

/-- Two immediate forms, in the same way. -/
theorem PairComputes.exec_imm (h : PairComputes f g a b w c) (hi : ∀ s, exec i s = arithImm f (b.setWidth 8) s)
    (hj : ∀ s, exec j s = arithImm g ((b >>> 8).setWidth 8) s) (hd : s.d = a.setWidth 8) :
    ∃ t, exec i s = .next t ∧ ∀ u : State, u.df = t.df → u.d = (a >>> 8).setWidth 8 →
      ∃ v, exec j u = .next v ∧ v.d ++ t.d = w ∧ v.df = c := by
  refine ⟨_, hi s, fun u hdf hud => ⟨_, hj u, h s.df (ofSum _) (ofSum _) ?_ ?_⟩⟩
  · rw [← hd]
  · rw [← hud]; exact congrArg (fun df => ofSum (g _ u.d df)) hdf

/-- LDI loads the high byte between the two and keeps `DF`. -/
theorem exec_pair_through_ldi {k : Byte}
    (hpair : ∃ t, exec i s = .next t ∧
      ∀ u : State, u.df = t.df → u.d = k → ∃ v, exec j u = .next v ∧ v.d ++ t.d = w ∧ v.df = c) :
    ∃ t u v, exec i s = .next t ∧ exec (.ldi k) t = .next u ∧ exec j u = .next v ∧
      v.d.toNat * 256 + t.d.toNat = w.toNat ∧ v.df = c := by
  obtain ⟨t, ht, hnext⟩ := hpair
  obtain ⟨u, hu, hud, hframe⟩ := exec_ldi_spec k t
  obtain ⟨v, hv, hw, hc⟩ := hnext u (hframe.df rfl) hud
  exact ⟨t, u, v, ht, hu, hv, by rw [← hw]; exact (joinBytes_toNat v.d t.d).symm, hc⟩

end

end Sys2Proof.Machine
end

section
/-! PROOFS. The statements on arithmetic. -/

namespace Sys2Proof.Proofs

open Sys2Proof Sys2Proof.Machine

/-- Settles O34: the four differ in the opcode byte, in where the operand is and in the carry in. -/
theorem addResult : Obligations.AddResult := by
  unfold Obligations.AddResult
  intro k s
  simp only [List.forall_mem_cons, List.not_mem_nil, false_imp_iff, implies_true, and_true]
  refine ⟨⟨?add, ?adc⟩, ⟨?adi, ?adci⟩⟩
  case add => exact ⟨rfl, rfl, exec_arithMem_spec (f := fun m d _ => addSum m d) rfl rfl⟩
  case adc => exact ⟨rfl, rfl, exec_arithMem_spec (f := addCarrySum) rfl rfl⟩
  case adi => exact ⟨rfl, rfl, exec_arithImm_spec (f := fun m d _ => addSum m d) rfl rfl⟩
  case adci => exact ⟨rfl, rfl, exec_arithImm_spec (f := addCarrySum) rfl rfl⟩

/-- Settles O35: the four are one subtraction, with `D` the subtrahend. -/
theorem subtractFromMemory : Obligations.SubtractFromMemory := by
  unfold Obligations.SubtractFromMemory
  intro k s
  simp only [List.forall_mem_cons, List.not_mem_nil, false_imp_iff, implies_true, and_true]
  have hborrow : 1 - s.df.toNat ≤ 1 := Nat.sub_le 1 _
  refine ⟨⟨?sd, ?sdb⟩, ⟨?sdi, ?sdbi⟩⟩
  case sd => exact ⟨rfl, rfl, exec_subMem_spec (f := fun m d _ => subSum m d) rfl rfl (Nat.zero_le 1)⟩
  case sdb => exact ⟨rfl, rfl, exec_subMem_spec rfl (subBorrowSum_eq _ _ _) hborrow⟩
  case sdi => exact ⟨rfl, rfl, exec_subImm_spec (f := fun m d _ => subSum m d) rfl rfl (Nat.zero_le 1)⟩
  case sdbi => exact ⟨rfl, rfl, exec_subImm_spec rfl (subBorrowSum_eq _ _ _) hborrow⟩

/-- Settles O36: the four are one subtraction, with `D` the minuend. SM writes no memory, `X` or register, so ADD reads the
byte that SM has read. -/
theorem subtractMemory : Obligations.SubtractMemory := by
  unfold Obligations.SubtractMemory
  intro k s
  simp only [List.forall_mem_cons, List.not_mem_nil, false_imp_iff, implies_true, and_true]
  have hborrow : 1 - s.df.toNat ≤ 1 := Nat.sub_le 1 _
  refine ⟨⟨?sm, ?smb⟩, ⟨?smi, ?smbi⟩, ?restore⟩
  case sm => exact ⟨rfl, rfl, exec_subMem_spec (f := fun m d _ => subSum d m) rfl rfl (Nat.zero_le 1)⟩
  case smb =>
    exact ⟨rfl, rfl, exec_subMem_spec (f := fun m d df => subBorrowSum d m df) rfl (subBorrowSum_eq _ _ _) hborrow⟩
  case smi => exact ⟨rfl, rfl, exec_subImm_spec (f := fun m d _ => subSum d m) rfl rfl (Nat.zero_le 1)⟩
  case smbi =>
    exact ⟨rfl, rfl, exec_subImm_spec (f := fun m d df => subBorrowSum d m df) rfl (subBorrowSum_eq _ _ _) hborrow⟩
  case restore =>
    obtain ⟨t, ht, -, -, htd, htdf, -, hframe⟩ :=
      exec_subMem_spec (i := .sm) (s := s) (f := fun m d _ => subSum d m) (borrow := 0) rfl rfl (Nat.zero_le 1)
    obtain ⟨u, hu, hud, -⟩ := exec_arithMem_spec (i := .add) (s := t) (f := fun m d _ => addSum m d) rfl rfl
    have hm : t.peek (t.reg t.x) = s.peek (s.reg s.x) := by
      rw [hframe.x rfl, hframe.regs _ List.not_mem_nil, hframe.mem _ nofun]
    refine ⟨t, u, ht, hu, BitVec.eq_of_toNat_eq ?_, htdf⟩
    have hlt : s.d.toNat < 256 := s.d.isLt
    rw [addSum, hm] at hud
    omega

/-- Settles O37: each of the six pairs of instructions is one of three pairs of sums. -/
theorem multiByteArithmetic : Obligations.MultiByteArithmetic := by
  unfold Obligations.MultiByteArithmetic
  intro a b s hd bLo bHi carry
  simp only [List.forall_mem_cons, List.not_mem_nil, false_imp_iff, implies_true, and_true]
  have hadi := (pairComputes_add a b).exec_imm (i := .adi bLo) (j := .adci bHi) (fun _ => rfl) (fun _ => rfl) hd
  have hsmi := (pairComputes_subMem a b).exec_imm (i := .smi bLo) (j := .smbi bHi) (fun _ => rfl) (fun _ => rfl) hd
  have hsdi := (pairComputes_subFromMem a b).exec_imm (i := .sdi bLo) (j := .sdbi bHi) (fun _ => rfl) (fun _ => rfl) hd
  refine ⟨⟨?add, ?sm, ?sd⟩, ⟨hadi, hsmi, hsdi⟩, exec_pair_through_ldi hadi, ?smi_ldi⟩
  case add => exact (pairComputes_add a b).exec_mem (fun _ => rfl) (fun _ => rfl) hd
  case sm => exact (pairComputes_subMem a b).exec_mem (fun _ => rfl) (fun _ => rfl) hd
  case sd => exact (pairComputes_subFromMem a b).exec_mem (fun _ => rfl) (fun _ => rfl) hd
  case smi_ldi =>
    obtain ⟨t, u, v, ht, hu, hv, hw, hc⟩ := exec_pair_through_ldi hsmi
    refine ⟨t, u, v, ht, hu, hv, ?_, hc⟩
    rw [hw]; bv_omega

end Sys2Proof.Proofs
end

section
/-! SUPPORT. What the short branches of `spec/44_short_branch.md` answer: the taken and the not-taken execute phase of R110,
its frame, and the conditions as the rules state them. -/

namespace Sys2Proof.Machine

/-! ### The execute phase (R110) -/

section

variable {k : Touch} {s t u : State} {a : Byte}

/-- A short branch writes `R[P]`, and `LAST_RD` when it reads the operand byte. -/
theorem OnlyTouches.shortBranch {c : Bool} (h : OnlyTouches k s t) (hreg : t.p ∈ k.regs) (htrace : k.trace = true)
    (hu : Machine.shortBranch c a t = .next u) : OnlyTouches k s u := by
  obtain ⟨-, rfl⟩ | ⟨-, rfl⟩ := shortBranch_spec hu
  · exact (h.noteRead htrace _).setReg hreg _
  · exact h.setReg hreg _

/-- The frame of a short branch alone. -/
theorem onlyTouches_shortBranch {c : Bool} (h : shortBranch c a s = .next t) :
    OnlyTouches { regs := [s.p], trace := true } s t :=
  (OnlyTouches.refl _ s).shortBranch (List.mem_singleton_self s.p) rfl h

/-- Taken, the page is that of the operand byte's address. -/
theorem shortBranch_true_pc_trace (h : shortBranch true a s = .next t) :
    t.pc.toNat = s.pc.toNat / 256 * 256 + a.toNat ∧ t.trace = { s.trace with lastRd := s.pc } := by
  cases h
  refine ⟨?_, rfl⟩
  rw [State.setPc_eq, State.pc_setReg, if_pos rfl, joinBytes_toNat, hiByte_toNat]

/-- Not taken, the operand byte is passed and not read. -/
theorem shortBranch_false_pc_trace (h : shortBranch false a s = .next t) :
    t.pc.toNat = (s.pc.toNat + 1) % 65536 ∧ t.trace = s.trace := by
  cases h
  exact ⟨s.incReg_toNat s.p, rfl⟩

/-- The fifteen short branches without a side effect, each with its own condition `c` (R112 to R126). -/
theorem exec_shortBranch_spec {i : Instr} {c : Bool} (h : exec i s = shortBranch c a s) :
    ∃ t, exec i s = .next t ∧ OnlyTouches { regs := [s.p], trace := true } s t ∧
      (c = true → t.pc.toNat = s.pc.toNat / 256 * 256 + a.toNat ∧ t.trace = { s.trace with lastRd := s.pc }) ∧
      (c = false → t.pc.toNat = (s.pc.toNat + 1) % 65536 ∧ t.trace = s.trace) := by
  obtain ⟨t, ht⟩ := shortBranch_next c a s
  refine ⟨t, h.trans ht, onlyTouches_shortBranch ht, ?_, ?_⟩
  · rintro rfl; exact shortBranch_true_pc_trace ht
  · rintro rfl; exact shortBranch_false_pc_trace ht

end

/-! ### The tests of `D` (R114, R122) -/

theorem beq_zero_eq_decide_toNat (d : Byte) : (d == 0) = decide (d.toNat = 0) := by
  rw [Bool.eq_iff_iff, beq_iff_eq, decide_eq_true_iff, ← BitVec.toNat_inj]; rfl

theorem bne_zero_eq_decide_toNat (d : Byte) : (d != 0) = decide (d.toNat ≠ 0) := by
  rw [bne, beq_zero_eq_decide_toNat, decide_not]

/-- BZ (R114). -/
theorem exec_bz (a : Byte) (s : State) : exec (.bz a) s = shortBranch (decide (s.d.toNat = 0)) a s :=
  congrArg (shortBranch · a s) (beq_zero_eq_decide_toNat s.d)

/-- BNZ (R122). -/
theorem exec_bnz (a : Byte) (s : State) : exec (.bnz a) s = shortBranch (decide (s.d.toNat ≠ 0)) a s :=
  congrArg (shortBranch · a s) (bne_zero_eq_decide_toNat s.d)

/-! ### BN4 (R127) -/

section

variable {s : State}

/-- While the gate is open, BN4 counts down and is then a taken branch. -/
theorem exec_bn4_open (a : Byte) (hgate : s.ef4 = false ∧ s.dbc ≠ 0) :
    exec (.bn4 a) s = shortBranch true a (s.setDbc (s.dbc - 1)) :=
  if_pos (by simpa using hgate)

/-- Else it is a branch that is not taken. -/
theorem exec_bn4_closed (a : Byte) (hgate : ¬(s.ef4 = false ∧ s.dbc ≠ 0)) :
    exec (.bn4 a) s = shortBranch false a s :=
  if_neg (by simpa using hgate)

theorem OnlyTouches.setDbc {k : Touch} {t : State} (h : OnlyTouches k s t) (hdbc : k.dbc = true) (v : Nat) :
    OnlyTouches k s (t.setDbc v) :=
  { h with dbc := fun hno => absurd (hdbc.symm.trans hno) nofun }

end

end Sys2Proof.Machine
end

section
/-! PROOFS. The statements on the short branches. -/

namespace Sys2Proof.Proofs

open Sys2Proof Sys2Proof.Machine

/-- Settles O38: the eight are one branch; they differ in the opcode byte and the condition. -/
theorem shortBranchOnSet : Obligations.ShortBranchOnSet := by
  unfold Obligations.ShortBranchOnSet
  intro a s
  simp only [List.forall_mem_cons, -eq_self]
  refine ⟨?br, ?bq, ?bz, ?bdf, ?b1, ?b2, ?b3, ?b4, List.forall_mem_nil _⟩
  case bz => exact ⟨rfl, rfl, exec_shortBranch_spec (exec_bz a s)⟩
  all_goals exact ⟨rfl, rfl, exec_shortBranch_spec rfl⟩

/-- Settles O39: the seven are the same branch, with the complementary conditions. -/
theorem shortBranchOnClear : Obligations.ShortBranchOnClear := by
  unfold Obligations.ShortBranchOnClear
  intro a s
  simp only [List.forall_mem_cons, -eq_self]
  refine ⟨?nbr, ?bnq, ?bnz, ?bnf, ?bn1, ?bn2, ?bn3, List.forall_mem_nil _⟩
  case bnz => exact ⟨rfl, rfl, exec_shortBranch_spec (exec_bnz a s)⟩
  all_goals exact ⟨rfl, rfl, exec_shortBranch_spec rfl⟩

/-- Settles O40: by the gate, the branch runs after the count-down, which changes nothing that it reads, or runs alone and
leaves `DBC`. -/
theorem debouncedBranch : Obligations.DebouncedBranch := by
  unfold Obligations.DebouncedBranch
  intro a s
  refine ⟨rfl, rfl, ?_⟩
  by_cases hgate : s.ef4 = false ∧ s.dbc ≠ 0
  case pos =>
    obtain ⟨t, ht⟩ := shortBranch_next true a (s.setDbc (s.dbc - 1))
    obtain ⟨hpc, htrace⟩ := shortBranch_true_pc_trace ht
    have hdbc : t.dbc = s.dbc - 1 := (onlyTouches_shortBranch ht).dbc rfl
    refine ⟨t, (exec_bn4_open a hgate).trans ht, ?_, fun _ => ⟨?_, hpc, htrace⟩, fun hclosed => absurd hgate hclosed⟩
    · exact ((OnlyTouches.refl _ s).setDbc rfl (s.dbc - 1)).shortBranch (List.mem_singleton_self s.p) rfl ht
    · rw [hdbc]; exact Nat.succ_pred hgate.2
  case neg =>
    obtain ⟨t, ht⟩ := shortBranch_next false a s
    have hdbc : t.dbc = s.dbc := (onlyTouches_shortBranch ht).dbc rfl
    refine ⟨t, (exec_bn4_closed a hgate).trans ht, ?_, fun hopen => absurd hopen hgate, fun _ => ⟨hdbc, ?_⟩⟩
    · exact (OnlyTouches.refl _ s).shortBranch (List.mem_singleton_self s.p) rfl ht
    · exact shortBranch_false_pc_trace ht

end Sys2Proof.Proofs
end

section
/-! SUPPORT. What the long branches and the long skips of `spec/45_long_branch_skip.md` answer: the taken and the not-taken
execute phase of R128 and R138, the frames, the conditions on `D` as the rules state them, and the encoding of a target. -/

namespace Sys2Proof.Machine

/-! ### The program counter after a long move -/

/-- A write of `pc` is what a read of `pc` returns. -/
theorem State.pc_setPc (s : State) (w : Word) : (s.setPc w).pc = w := State.reg_setReg_same s s.p w

/-- Two bytes are passed modulo 65536 (R128, R138). -/
theorem State.pc_setPc_add_two_toNat (s : State) : (s.setPc (s.pc + 2)).pc.toNat = (s.pc.toNat + 2) % 65536 := by
  rw [State.pc_setPc, BitVec.toNat_add]; rfl

/-! ### The long branches (R128) -/

section

variable {s t : State} {hi lo : Byte} {w : Word}

/-- A long branch writes `R[P]`, and `LAST_RD` when it reads the operand bytes. -/
theorem onlyTouches_longBranch {c : Bool} (h : longBranch c w s = .next t) :
    OnlyTouches { regs := [s.p], trace := true } s t := by
  have hp : s.p ∈ [s.p] := List.mem_singleton_self s.p
  obtain ⟨-, rfl⟩ | ⟨-, rfl⟩ := longBranch_spec h
  · exact (((OnlyTouches.refl _ s).noteRead rfl s.pc).noteRead rfl (s.pc + 1)).setReg hp w
  · exact (OnlyTouches.refl _ s).setReg hp (s.pc + 2)

/-- Taken, the first operand byte is the high half of `pc`, and the second is the last byte read. -/
theorem longBranch_true_pc_trace (h : longBranch true (hi ++ lo) s = .next t) :
    t.pc.toNat = hi.toNat * 256 + lo.toNat ∧ t.trace = { s.trace with lastRd := s.pc + 1 } := by
  cases h
  refine ⟨?_, rfl⟩
  rw [State.pc_setPc]; exact joinBytes_toNat hi lo

/-- Not taken, both operand bytes are passed and not read. -/
theorem longBranch_false_pc_trace (h : longBranch false w s = .next t) :
    t.pc.toNat = (s.pc.toNat + 2) % 65536 ∧ t.trace = s.trace := by
  cases h
  exact ⟨s.pc_setPc_add_two_toNat, rfl⟩

/-- The eight long branches, each with its own condition `c` (R130 to R137). -/
theorem exec_longBranch_spec {i : Instr} {c : Bool} (h : exec i s = longBranch c (hi ++ lo) s) :
    ∃ t, exec i s = .next t ∧ OnlyTouches { regs := [s.p], trace := true } s t ∧
      (c = true → t.pc.toNat = hi.toNat * 256 + lo.toNat ∧ t.trace = { s.trace with lastRd := s.pc + 1 }) ∧
      (c = false → t.pc.toNat = (s.pc.toNat + 2) % 65536 ∧ t.trace = s.trace) := by
  obtain ⟨t, ht⟩ := longBranch_next c (hi ++ lo) s
  refine ⟨t, h.trans ht, onlyTouches_longBranch ht, ?_, ?_⟩
  · rintro rfl; exact longBranch_true_pc_trace ht
  · rintro rfl; exact longBranch_false_pc_trace ht

/-- A target's operand bytes are its halves, high byte first (R55, R57). -/
theorem encode_of_target {i : Instr} (hops : operandBytes i = [hiByte (joinBytes hi lo), loByte (joinBytes hi lo)]) :
    encode i = [opcode i, hi, lo] := by
  rw [encode, hops, hiByte_joinBytes, loByte_joinBytes]

/-- LBZ (R132). -/
theorem exec_lbz (w : Word) (s : State) : exec (.lbz w) s = longBranch (decide (s.d.toNat = 0)) w s :=
  congrArg (longBranch · w s) (beq_zero_eq_decide_toNat s.d)

/-- LBNZ (R136). -/
theorem exec_lbnz (w : Word) (s : State) : exec (.lbnz w) s = longBranch (decide (s.d.toNat ≠ 0)) w s :=
  congrArg (longBranch · w s) (bne_zero_eq_decide_toNat s.d)

end

/-! ### The long skips (R138) -/

section

variable {s t : State}

/-- A long skip writes `R[P]` alone. -/
theorem onlyTouches_longSkip {c : Bool} (h : longSkip c s = .next t) : OnlyTouches { regs := [s.p] } s t := by
  obtain ⟨-, rfl⟩ | ⟨-, rfl⟩ := longSkip_spec h
  · exact onlyTouches_setReg s s.p (s.pc + 2)
  · exact OnlyTouches.refl _ t

/-- Two bytes are passed when the condition `c` holds, else none. -/
theorem longSkip_pc {c : Bool} (h : longSkip c s = .next t) :
    t.pc.toNat = (s.pc.toNat + (if c then 2 else 0)) % 65536 := by
  obtain ⟨rfl, rfl⟩ | ⟨rfl, rfl⟩ := longSkip_spec h
  · exact s.pc_setPc_add_two_toNat
  · exact (Nat.mod_eq_of_lt t.pc.isLt).symm

/-- NOP and the seven long skips, each with its own condition `c` (R139 to R145, R152). -/
theorem exec_longSkip_spec {i : Instr} {c : Bool} (h : exec i s = longSkip c s) :
    ∃ t, exec i s = .next t ∧ OnlyTouches { regs := [s.p] } s t ∧
      t.pc.toNat = (s.pc.toNat + (if c then 2 else 0)) % 65536 := by
  obtain ⟨t, ht⟩ := longSkip_next c s
  exact ⟨t, h.trans ht, onlyTouches_longSkip ht, longSkip_pc ht⟩

/-- LSNZ (R140). -/
theorem exec_lsnz (s : State) : exec .lsnz s = longSkip (decide (s.d.toNat ≠ 0)) s :=
  congrArg (longSkip · s) (bne_zero_eq_decide_toNat s.d)

/-- LSZ (R144). -/
theorem exec_lsz (s : State) : exec .lsz s = longSkip (decide (s.d.toNat = 0)) s :=
  congrArg (longSkip · s) (beq_zero_eq_decide_toNat s.d)

end

end Sys2Proof.Machine
end

section
/-! PROOFS. The statements on the long branches and the long skips. -/

namespace Sys2Proof.Proofs

open Sys2Proof Sys2Proof.Machine

/-- Settles O41: the eight are one branch; they differ in the opcode byte and the condition. -/
theorem longBranchResult : Obligations.LongBranchResult := by
  unfold Obligations.LongBranchResult
  intro hi lo s
  simp only [List.forall_mem_cons, -eq_self]
  refine ⟨?lbr, ?lbq, ?lbz, ?lbdf, ?nlbr, ?lbnq, ?lbnz, ?lbnf, List.forall_mem_nil _⟩
  case lbz => exact ⟨encode_of_target rfl, rfl, exec_longBranch_spec (exec_lbz (hi ++ lo) s)⟩
  case lbnz => exact ⟨encode_of_target rfl, rfl, exec_longBranch_spec (exec_lbnz (hi ++ lo) s)⟩
  all_goals exact ⟨encode_of_target rfl, rfl, exec_longBranch_spec rfl⟩

/-- Settles O42: NOP and the seven are one skip; they differ in the opcode byte and the condition, which NOP's never meets. -/
theorem longSkipResult : Obligations.LongSkipResult := by
  unfold Obligations.LongSkipResult
  intro s
  simp only [List.forall_mem_cons, -eq_self]
  refine ⟨?nop, ?lsnq, ?lsnz, ?lsnf, ?lsie, ?lsq, ?lsz, ?lsdf, List.forall_mem_nil _⟩
  case lsnz => exact ⟨rfl, rfl, exec_longSkip_spec (exec_lsnz s)⟩
  case lsz => exact ⟨rfl, rfl, exec_longSkip_spec (exec_lsz s)⟩
  all_goals exact ⟨rfl, rfl, exec_longSkip_spec rfl⟩

end Sys2Proof.Proofs
end

section
/-! SUPPORT. What the instructions of `spec/46_control_mode.md` but NOP answer and their frames: one write of `P`, `X` or `Q`,
and the return of R148. -/

namespace Sys2Proof.Machine

/-! ### Writes of the control state in a frame -/

section

variable {k : Touch} {s t : State}

theorem OnlyTouches.setP (h : OnlyTouches k s t) (hp : k.p = true) (v : Nibble) : OnlyTouches k s (t.setP v) :=
  { h with p := fun hno => absurd (hp.symm.trans hno) nofun }

theorem OnlyTouches.setX (h : OnlyTouches k s t) (hx : k.x = true) (v : Nibble) : OnlyTouches k s (t.setX v) :=
  { h with x := fun hno => absurd (hx.symm.trans hno) nofun }

theorem OnlyTouches.setQ (h : OnlyTouches k s t) (hq : k.q = true) (v : Bool) : OnlyTouches k s (t.setQ v) :=
  { h with q := fun hno => absurd (hq.symm.trans hno) nofun }

theorem OnlyTouches.setIE (h : OnlyTouches k s t) (hie : k.ie = true) (v : Bool) : OnlyTouches k s (t.setIE v) :=
  { h with ie := fun hno => absurd (hie.symm.trans hno) nofun }

end

/-! ### The selects and the output flag -/

/-- SEP: the next opcode is fetched from `R[n]` (R146). -/
theorem exec_sep_spec (n : Nibble) (s : State) :
    ∃ t, exec (.sep n) s = .next t ∧ t.p = n ∧ t.pc = s.reg n ∧ OnlyTouches { p := true } s t :=
  ⟨s.setP n, rfl, rfl, rfl, (OnlyTouches.refl _ s).setP rfl n⟩

/-- SEX (R147). -/
theorem exec_sex_spec (n : Nibble) (s : State) :
    ∃ t, exec (.sex n) s = .next t ∧ t.x = n ∧ t.rx = s.reg n ∧ OnlyTouches { x := true } s t :=
  ⟨s.setX n, rfl, rfl, rfl, (OnlyTouches.refl _ s).setX rfl n⟩

/-- SEQ and REQ, each with its own value (R150, R151). -/
theorem exec_setQ_spec {i : Instr} {s : State} {v : Bool} (h : exec i s = .next (s.setQ v)) :
    ∃ t, exec i s = .next t ∧ t.q = v ∧ OnlyTouches { q := true } s t :=
  ⟨s.setQ v, h, rfl, (OnlyTouches.refl _ s).setQ rfl v⟩

/-! ### The return (R148, R149) -/

/-- The writes of `X`, `P` and `IE` around the increment touch no register, so it adds 1 to the register's old value, whichever
of the two it is. -/
theorem State.returnFrom_reg_returnInc_toNat (s : State) (ie : Bool) :
    ((s.returnFrom ie).reg (s.returnInc (s.peek s.rx))).toNat =
      ((s.reg (s.returnInc (s.peek s.rx))).toNat + 1) % 65536 := by
  rw [returnFrom_eq, State.setIE_reg, State.reg_setReg_same, BitVec.toNat_add]; rfl

/-- The return writes one register, `X`, `P`, `IE` and `LAST_RD`. -/
theorem onlyTouches_returnFrom (s : State) (ie : Bool) :
    OnlyTouches { regs := [s.returnInc (s.peek s.rx)], x := true, p := true, ie := true, trace := true }
      s (s.returnFrom ie) := by
  rw [returnFrom_eq]
  exact (((((OnlyTouches.refl _ s).noteRead rfl _).setX rfl _).setP rfl _).setReg
    (List.mem_singleton_self _) _).setIE rfl ie

/-- RET and DIS, each with its own value of `IE` (R148, R149). -/
theorem exec_return_spec {i : Instr} {s : State} {ie : Bool} (h : exec i s = .next (s.returnFrom ie)) :
    ∃ t, exec i s = .next t ∧ t.x.toNat = (s.peek s.rx).toNat / 16 ∧ t.p.toNat = (s.peek s.rx).toNat % 16 ∧
      (t.reg (s.returnInc (s.peek s.rx))).toNat = ((s.reg (s.returnInc (s.peek s.rx))).toNat + 1) % 65536 ∧
      t.ie = ie ∧ t.trace = { s.trace with lastRd := s.rx } ∧
      OnlyTouches { regs := [s.returnInc (s.peek s.rx)], x := true, p := true, ie := true, trace := true } s t :=
  ⟨s.returnFrom ie, h, hiNibble_toNat _, loNibble_toNat _, s.returnFrom_reg_returnInc_toNat ie, rfl, rfl,
    onlyTouches_returnFrom s ie⟩

end Sys2Proof.Machine
end

section
/-! PROOFS. The statements on control transfer and mode. -/

namespace Sys2Proof.Proofs

open Sys2Proof Sys2Proof.Machine

/-- Settles O43: each of the four is one write of `P`, `X` or `Q`. -/
theorem selectAndOutputFlagResult : Obligations.SelectAndOutputFlagResult := by
  unfold Obligations.SelectAndOutputFlagResult
  intro n s
  refine ⟨⟨?_, ?_, exec_sep_spec n s⟩, ⟨?_, ?_, exec_sex_spec n s⟩,
    ⟨rfl, rfl, exec_setQ_spec rfl⟩, ⟨rfl, rfl, exec_setQ_spec rfl⟩⟩
  · exact encode_of_regOpcode (row := 0xD) rfl rfl
  · exact cost_regOpcode (by decide) n
  · exact encode_of_regOpcode (row := 0xE) rfl rfl
  · exact cost_regOpcode (by decide) n

/-- Settles O44: the two are one return; they differ in the opcode byte and the value of `IE`. -/
theorem returnResult : Obligations.ReturnResult := by
  unfold Obligations.ReturnResult
  intro s
  simp only [List.forall_mem_cons, -eq_self]
  refine ⟨?ret, ?dis, List.forall_mem_nil _⟩
  all_goals exact ⟨rfl, rfl, exec_return_spec rfl⟩

end Sys2Proof.Proofs
end

section
/-! SUPPORT. What the operations of `spec/47_io_unsupported.md` do to the ports and the diagnostics, that no step takes a record
back, and the meanings of OUT, INP, SAV and MARK with their frames. -/

namespace Sys2Proof.Machine

/-! ### The records (R154, R168) -/

/-- From `s` to `t` each record has been added to at its end, if at all. -/
structure RecordsKept (s t : State) : Prop where
  diag : s.diag <+: t.diag
  outHist : s.ports.outHist <+: t.ports.outHist
  presented : s.ports.presented <+: t.ports.presented

theorem RecordsKept.of_eq {s t : State} (hdiag : t.diag = s.diag) (hout : t.ports.outHist = s.ports.outHist)
    (hpresented : t.ports.presented = s.ports.presented) : RecordsKept s t where
  diag := hdiag ▸ List.prefix_rfl
  outHist := hout ▸ List.prefix_rfl
  presented := hpresented ▸ List.prefix_rfl

/-- The execute phase adds to the records by an output or a diagnostic, and has no other write of them. -/
theorem Writes.recordsKept {op : Byte} {s t : State} (h : Writes op s t) : RecordsKept s t := by
  induction h with
  | none => exact .of_eq rfl rfl rfl
  | portOut _ _ _ _ ih =>
    exact { ih with
      outHist := ih.outHist.trans (List.prefix_append _ _)
      presented := ih.presented.trans (List.prefix_append _ _) }
  | warn _ _ _ ih => exact { ih with diag := ih.diag.trans (List.prefix_append _ _) }
  | _ => rename_i ih; exact { ih with }

/-- No operation of the host writes a record, the reset included (R179). -/
theorem State.recordsKept_hostOp (s : State) (op : HostOp) : RecordsKept s (s.hostOp op) := by
  cases op with
  | setEf flag => cases flag <;> exact .of_eq rfl rfl rfl
  | run limit start =>
    unfold State.hostOp State.enterRun State.runEntry
    dsimp only
    split <;> exact .of_eq rfl rfl rfl
  | _ => exact .of_eq rfl rfl rfl

theorem State.recordsKept_betweenRuns (s : State) : RecordsKept s s.betweenRuns := by
  cases hp : s.env.pending with
  | nil => rw [betweenRuns_nil hp]; exact .of_eq rfl rfl rfl
  | cons op later =>
    rw [betweenRuns_cons hp]
    have hserved := State.recordsKept_hostOp { s with env := { s.env with pending := later } } op
    exact { hserved with }

/-! ### The input devices (R155) -/

/-- The running value is that of the last device with a value so far, and the initial one until there is one. -/
theorem askAll_eq (v : Byte) (devs : List InDevice) :
    askAll v devs = (devs.filterMap InDevice.answer).getLast?.elim v (BitVec.ofNat 8) := by
  induction devs generalizing v with
  | nil => rfl
  | cons dev devs ih =>
    cases ha : dev.answer with
    | none => rw [askAll_cons_none v dev devs ha, ih, List.filterMap_cons_none ha]
    | some r =>
      rw [askAll_cons_value v dev devs r ha, ih, List.filterMap_cons_some ha, List.getLast?_cons]
      cases (devs.filterMap InDevice.answer).getLast? <;> rfl

/-- A request to port `p` asks its devices and leaves those of every other port. -/
theorem State.portInAsked_inDevs_getElem (s : State) (p q : Port) :
    (s.portInAsked p).ports.inDevs[q.toNat]'(q.isLt) =
      if q = p then (s.ports.inDevs[q.toNat]'(q.isLt)).map InDevice.afterAsk
      else s.ports.inDevs[q.toNat]'(q.isLt) := by
  by_cases hqp : q = p
  · subst hqp
    rw [if_pos rfl]
    exact Vector.getElem_set_self q.isLt
  · rw [if_neg hqp]
    exact Vector.getElem_set_ne p.isLt q.isLt fun he => hqp (BitVec.eq_of_toNat_eq he.symm)

/-! ### The registry (R153) -/

/-- Appending to the list of a port, given modulo 8, leaves every other port's list. -/
theorem getElem_set_hostPort {α : Type} (lists : Vector (List α) 8) (port : Nat) (a : α) (q : Port) :
    (lists.set (hostPort port).toNat (lists[(hostPort port).toNat]'((hostPort port).isLt) ++ [a])
      (hostPort port).isLt)[q.toNat]'(q.isLt) =
      lists[q.toNat]'(q.isLt) ++ (if q.toNat = port % 8 then [a] else []) := by
  have hport : (hostPort port).toNat = port % 8 := BitVec.toNat_ofNat port 3
  by_cases hq : q = hostPort port
  · subst hq
    rw [if_pos hport]
    exact Vector.getElem_set_self _
  · have hne : q.toNat ≠ (hostPort port).toNat := fun he => hq (BitVec.eq_of_toNat_eq he)
    rw [if_neg (hport ▸ hne), List.append_nil]
    exact Vector.getElem_set_ne _ _ hne.symm

/-! ### Writes of the ports, the display flag and the diagnostics in a frame -/

section

variable {k : Touch} {s t : State}

theorem OnlyTouches.portOut (h : OnlyTouches k s t) (hports : k.ports = true) (p : Port) (v : Byte) :
    OnlyTouches k s (t.portOut p v) :=
  { h with ports := fun hno => absurd (hports.symm.trans hno) nofun }

theorem OnlyTouches.portInAsked (h : OnlyTouches k s t) (hports : k.ports = true) (p : Port) :
    OnlyTouches k s (t.portInAsked p) :=
  { h with ports := fun hno => absurd (hports.symm.trans hno) nofun }

theorem OnlyTouches.withDisp (h : OnlyTouches k s t) (hdisp : k.disp = true) (v : Bool) :
    OnlyTouches k s { t with disp := v } :=
  { h with disp := fun hno => absurd (hdisp.symm.trans hno) nofun }

theorem OnlyTouches.warn (h : OnlyTouches k s t) (hdiag : k.diag = true) (op : Byte) (a : Word) :
    OnlyTouches k s (t.warn op a) :=
  { h with diag := fun hno => absurd (hdiag.symm.trans hno) nofun }

end

/-! ### Opcode bytes that hold a port number (R55) -/

theorem ioOpcode_false_eq_add (p : Port) : ioOpcode false p = 0x60 + p.setWidth 8 := by
  revert p; decide

theorem ioOpcode_true_eq_add (p : Port) : ioOpcode true p = 0x68 + p.setWidth 8 := by
  revert p; decide

theorem cost_ioOpcode (input : Bool) (p : Port) : cost (ioOpcode input p) = 2 := by
  revert input p; decide

/-! ### The instructions -/

/-- The state after OUT: the read at `R[X]`, the output, the increment of `R[X]`, and `DISP` for port 4 (R156). -/
def State.afterOut (s : State) (p : Port) : State :=
  { ((s.noteRead s.rx).portOut p (s.peek s.rx)).incReg s.x with disp := s.disp || decide (p = displayPort) }

theorem exec_out (p : Port) (s : State) : exec (.out p) s = .next (s.afterOut p) := by
  simp only [exec, execOut, State.afterOut]
  split
  next hp => rw [decide_eq_true hp, Bool.or_true]; rfl
  next hp => rw [decide_eq_false hp, Bool.or_false]; rfl

theorem onlyTouches_afterOut (s : State) (p : Port) :
    OnlyTouches { regs := [s.x], ports := true, disp := true, trace := true } s (s.afterOut p) :=
  ((((OnlyTouches.refl _ s).noteRead rfl _).portOut rfl p _).setReg (List.mem_singleton_self s.x) _).withDisp rfl _

/-- INP (R157). -/
theorem exec_inp (p : Port) (s : State) :
    exec (.inp p) s = .next (((s.portInAsked p).memWrite (s.reg s.x) (s.portInByte p)).setD (s.portInByte p)) := rfl

/-- SAV and MARK, each with its own opcode byte, in the execute phase (R158, R159). -/
theorem exec_warn_spec {i : Instr} {op : Byte} {s : State} (h : exec i s = .next (s.warn op (s.pc - 1))) :
    ∃ t, exec i s = .next t ∧ t.diag = s.diag ++ [{ op := op, addr := s.pc - 1 }] ∧ OnlyTouches { diag := true } s t :=
  ⟨_, h, rfl, (OnlyTouches.refl _ s).warn rfl op _⟩

/-- In a step `pc` has passed the opcode byte when SAV or MARK runs, so the address in the diagnostic is that of the byte. -/
theorem step_warn_spec {i : Instr} {op : Byte} {s : State} (hdec : ∀ a b, decodeOp op a b = i)
    (hexec : ∀ u : State, exec i u = .next (u.warn op (u.pc - 1))) (hne : op ≠ 0x00) (hcost : cost op = 2)
    (hf : s.fetches) (hop : s.peek s.pc = op) :
    ∃ t, step s = .next t ∧ t.diag = s.diag ++ [{ op := op, addr := s.pc }] ∧ t.pc = s.pc + 1 ∧
      t.n = op.extractLsb' 0 4 ∧ t.cyc = s.cyc + 2 := by
  subst hop
  have hi : s.fetchInstr = i := hdec _ _
  have hpc : ((s.noteFetch s.pc).passOpcode (s.peek s.pc)).pc = s.pc + 1 := State.pc_passOpcode _ _
  have hexec := hexec ((s.noteFetch s.pc).passOpcode (s.peek s.pc))
  rw [← hi] at hexec
  refine ⟨_, step_of_exec hf hne hexec, ?_, hpc, rfl, ?_⟩
  · rw [hpc, BitVec.add_sub_cancel]; rfl
  · rw [hcost]; rfl

end Sys2Proof.Machine
end

section
/-! PROOFS. The statements on input, output and the unsupported instructions. -/

namespace Sys2Proof.Proofs

open Sys2Proof Sys2Proof.Machine

/-- Settles O16, by the cases of a step: the two stops, the halt and the host write no record, and a chain of writes only adds
to one. -/
theorem recordsOnlyGrow : Obligations.RecordsOnlyGrow := by
  unfold Obligations.RecordsOnlyGrow
  intro s t h
  suffices hk : RecordsKept s t from ⟨hk.diag, hk.outHist, hk.presented⟩
  by_cases hr : s.rs = .running
  · obtain ⟨-, rfl⟩ | ⟨-, rfl⟩ | ⟨-, -, rfl⟩ | ⟨-, hop, u, hu, rfl⟩ := step_run_cases hr h
    iterate 3
      · exact .of_eq rfl rfl rfl
    · have hk := (writes_of_exec_fetchInstr hop hu).recordsKept
      exact { hk with }
  · rw [step_not_running hr] at h
    cases h
    exact s.recordsKept_betweenRuns

/-- Settles O46: the byte by induction on the list of devices, the devices by the one write of their list. -/
theorem lastAnswerWins : Obligations.LastAnswerWins := by
  unfold Obligations.LastAnswerWins
  intro s p q
  constructor
  · rw [State.portInByte, askAll_eq]
    cases ((s.ports.inDevs[p.toNat]'(p.isLt)).filterMap InDevice.answer).getLast? <;> rfl
  · have hask : InDevice.afterAsk =
        fun dev => { dev with script := dev.script.drop 1, asked := dev.asked + 1 } := by
      funext dev; rw [InDevice.afterAsk, List.drop_one]
    rw [State.portInAsked_inDevs_getElem, hask]

/-- Settles O45: a read, an output, an increment, and `DISP` for port 4; none of them sees another's write. -/
theorem outputResult : Obligations.OutputResult := by
  unfold Obligations.OutputResult
  intro p s
  refine ⟨congrArg (fun op => [op]) (ioOpcode_false_eq_add p), cost_ioOpcode false p, _, exec_out p s, rfl, ?_, rfl, rfl,
    onlyTouches_afterOut s p⟩
  exact ((s.noteRead s.rx).portOut p (s.peek s.rx)).incReg_toNat s.x

/-- Settles O47: the devices are asked, which no store sees; then one store, performed or discarded, and one write of `D`. -/
theorem inputResult : Obligations.InputResult := by
  unfold Obligations.InputResult
  intro p s
  refine ⟨congrArg (fun op => [op]) (ioOpcode_true_eq_add p), cost_ioOpcode true p, _, exec_inp p s, rfl, ?_, ?_, rfl, rfl, ?_⟩
  · exact State.peek_memWrite_stored (s := s.portInAsked p) (s.portInByte p)
  · exact State.memWrite_mem_of_mwe_off_or_beyond (s := s.portInAsked p) (s.portInByte p)
  · exact (((OnlyTouches.refl _ s).portInAsked rfl p).memWrite rfl rfl _).setD rfl _

/-- Settles O48: the two are one diagnostic; they differ in the opcode byte. -/
theorem unsupportedResult : Obligations.UnsupportedResult := by
  unfold Obligations.UnsupportedResult
  intro s
  simp only [List.forall_mem_cons, -eq_self]
  refine ⟨?sav, ?mark, List.forall_mem_nil _⟩
  case sav =>
    exact ⟨rfl, rfl, exec_warn_spec rfl, step_warn_spec (i := .sav) (fun _ _ => rfl) (fun _ => rfl) (by decide) rfl⟩
  case mark =>
    exact ⟨rfl, rfl, exec_warn_spec rfl, step_warn_spec (i := .mark) (fun _ _ => rfl) (fun _ => rfl) (by decide) rfl⟩

/-- Settles O55: between runs the step serves the request at the head of the queue, which appends to one list of one
direction. -/
theorem attachAppends : Obligations.AttachAppends := by
  unfold Obligations.AttachAppends
  intro s port device dev later q hr
  rw [step_not_running hr]
  constructor <;> intro hp <;> rw [betweenRuns_cons hp]
  · exact ⟨_, rfl, getElem_set_hostPort s.ports.outDevs port device q, rfl⟩
  · exact ⟨_, rfl, getElem_set_hostPort s.ports.inDevs port dev q, rfl⟩

end Sys2Proof.Proofs
end

section
/-! SUPPORT. The loop of `spec/48_execution_loop.md`: what the fetch phase reads, what the halt writes, how a run goes on from
one step to the next, and the run entry. -/

namespace Sys2Proof

/-! ### The three bytes from `pc` on (R43, R54) -/

/-- Three bytes hold a whole instruction, the one that `decodeOp` gives: the longest has three. -/
theorem decode_three (op a b : Byte) : ∃ rest, decode [op, a, b] = .ok (decodeOp op a b, rest) := by
  obtain ⟨rest, hrest⟩ := operandBytes_decodeOp_isPrefix op a b
  have hdecode := decode_append (length_operandBytes_decodeOp op a b) rest
  have hsame := decodeWith_encode (wellFormed_decodeOp op a b)
  rw [opcode_decodeOp] at hsame
  rw [hrest, hsame] at hdecode
  exact ⟨rest, hdecode⟩

theorem decodeOp_of_decode {op a b : Byte} {i : Instr} {rest : List Byte} (h : decode [op, a, b] = .ok (i, rest)) :
    decodeOp op a b = i := by
  obtain ⟨rest', h'⟩ := decode_three op a b
  cases h'.symm.trans h
  rfl

end Sys2Proof

namespace Sys2Proof.Machine

/-! ### The halt (R164) -/

/-- The one register that the halt may write, for either setting of `HALT_PC_ADVANCE`. -/
theorem State.halt_reg (s : State) (m : Nibble) :
    s.halt.reg m = if s.params.haltPcAdvance = true ∧ m = s.p then s.pc + 1 else s.reg m := by
  cases hadvance : s.params.haltPcAdvance with
  | false =>
    have hregs : s.halt.regs = s.regs := by simp [State.halt, hadvance]
    simp [State.reg, hregs]
  | true =>
    have hregs : s.halt.regs = (s.setReg s.p (s.pc + 1)).regs := by simp [State.halt, hadvance]
    have hreg : s.halt.reg m = (s.setReg s.p (s.pc + 1)).reg m := by simp only [State.reg, hregs]
    rw [hreg, State.reg_setReg]
    simp [eq_comm]

theorem State.halt_pc (s : State) : s.halt.pc = s.pc + if s.params.haltPcAdvance then 1 else 0 := by
  have hpc : s.halt.pc = s.halt.reg s.p := rfl
  rw [hpc, State.halt_reg]
  cases s.params.haltPcAdvance
  · exact (BitVec.add_zero _).symm
  · exact if_pos ⟨rfl, rfl⟩

theorem State.halt_cyc (s : State) : s.halt.cyc = s.cyc + if s.params.haltCostCounted then 2 else 0 := by
  unfold State.halt
  split_ifs <;> rfl

theorem onlyTouches_halt (s : State) :
    OnlyTouches { regs := [s.p], haddr := true, rs := true, cyc := true } s s.halt :=
  { OnlyTouches.refl {} s with
    regs := fun m hm => by
      rw [State.halt_reg, if_neg fun h => hm (List.mem_singleton.mpr h.2)]
    haddr := nofun
    rs := nofun
    cyc := nofun }

/-! ### One step of a run -/

/-- No execute phase writes `LAST_FETCH` (R42). -/
theorem Writes.lastFetch {op : Byte} {s t : State} (h : Writes op s t) : t.trace.lastFetch = s.trace.lastFetch := by
  induction h with
  | none => rfl
  | _ => rename_i ih; exact ih

/-- After a step that fetches, the run has halted if the byte at `pc` is 0x00, and goes on if it is not. -/
theorem rs_of_fetches {s t : State} (hf : s.fetches) (h : step s = .next t) :
    t.rs = if s.peek s.pc = 0x00 then .halted else .running := by
  obtain ⟨hnf, -⟩ | ⟨hnf, -⟩ | ⟨-, hop, rfl⟩ | ⟨-, hop, u, hu, rfl⟩ := step_run_cases hf.1 h
  · exact absurd hf hnf
  · exact absurd hf hnf
  · rw [if_pos hop]; rfl
  · rw [if_neg hop]
    exact (writes_of_exec_fetchInstr hop hu).steadyItemsKept.rs.trans hf.1

theorem lastFetch_of_fetches {s t : State} (hf : s.fetches) (h : step s = .next t) : t.trace.lastFetch = s.pc := by
  obtain ⟨hnf, -⟩ | ⟨hnf, -⟩ | ⟨-, -, rfl⟩ | ⟨-, hop, u, hu, rfl⟩ := step_run_cases hf.1 h
  · exact absurd hf hnf
  · exact absurd hf hnf
  · rfl
  · exact (writes_of_exec_fetchInstr hop hu).lastFetch

theorem two_le_cost (op : Byte) : 2 ≤ cost op := by
  unfold cost; split <;> decide

/-- An instruction that does not halt costs at least 2 cycles of the budget, which stays as it was (R62, R163). -/
theorem cyc_limit_of_fetches {s t : State} (hf : s.fetches) (hop : s.peek s.pc ≠ 0x00) (h : step s = .next t) :
    s.cyc + 2 ≤ t.cyc ∧ t.limit = s.limit := by
  obtain ⟨hnf, -⟩ | ⟨hnf, -⟩ | ⟨-, hhalt, -⟩ | ⟨-, -, u, hu, rfl⟩ := step_run_cases hf.1 h
  · exact absurd hf hnf
  · exact absurd hf hnf
  · exact absurd hhalt hop
  · have hk := (writes_of_exec_fetchInstr hop hu).steadyItemsKept
    have hcyc : u.cyc = s.cyc := hk.cyc
    exact ⟨hcyc ▸ Nat.add_le_add_left (two_le_cost _) u.cyc, hk.limit⟩

/-- A step that fetches the halt byte halts. -/
theorem step_halts {s : State} (hf : s.fetches) (hop : s.peek s.pc = 0x00) : step s = .next s.afterHalt := by
  have hi : s.fetchInstr = .idl := (fetchInstr_eq_idl s).mpr hop
  rw [step_fetches hf, runInstr, hi, State.fetchOpcode, hop, exec_idl_fetched]
  rfl

/-- A step in a run that does not fetch ends the run (R161). -/
theorem step_stops {s : State} (hr : s.rs = .running) (hf : ¬s.fetches) : ∃ t, step s = .next t ∧ t.rs ≠ .running := by
  cases hd : s.disp with
  | true => exact ⟨_, step_yields hr hd, nofun⟩
  | false => exact ⟨_, step_exhausts hr hd (not_lt.mp fun hl => hf ⟨hr, hd, hl⟩), nofun⟩

/-! ### Several steps -/

theorem run_succ_of_next {s t : State} (h : step s = .next t) (k : Nat) :
    Host.Core.run Sys2Proof.core (k + 1) s = Host.Core.run Sys2Proof.core k t := by
  have hstep : Sys2Proof.core.step s = .next t := h
  simp only [Host.Core.run, hstep]

theorem run_one_of_refused {s : State} {e : Refusal} (h : step s = .refused e) :
    Host.Core.run Sys2Proof.core 1 s = .refused e := by
  have hstep : Sys2Proof.core.step s = .refused e := h
  simp only [Host.Core.run, hstep]

/-- The run from `s` stops within `k` steps, or is refused at the reserved byte. -/
def StopsWithin (k : Nat) (s : State) : Prop :=
  ∃ j ≤ k, (∃ t : State, Host.Core.run Sys2Proof.core j s = .next t ∧ t.rs ≠ .running) ∨
    Host.Core.run Sys2Proof.core j s = .refused Refusal.reservedOpcode

theorem stopsWithin_one {s t : State} (h : step s = .next t) (hr : t.rs ≠ .running) : StopsWithin 1 s :=
  ⟨1, le_rfl, .inl ⟨t, run_succ_of_next h 0, hr⟩⟩

theorem StopsWithin.mono {j k : Nat} {s : State} (h : StopsWithin j s) (hjk : j ≤ k) : StopsWithin k s := by
  obtain ⟨i, hi, hstop⟩ := h
  exact ⟨i, hi.trans hjk, hstop⟩

theorem StopsWithin.of_next {k : Nat} {s t : State} (h : step s = .next t) (ht : StopsWithin k t) :
    StopsWithin (k + 1) s := by
  obtain ⟨j, hj, hstop⟩ := ht
  exact ⟨j + 1, Nat.succ_le_succ hj, by rwa [run_succ_of_next h]⟩

/-- By induction on the budget that is left: every instruction that lets the run go on takes at least 2 cycles of it. -/
theorem stopsWithin_of_running (budget : Nat) {s : State} (hr : s.rs = .running)
    (hbudget : (s.limit - (s.cyc : Int)).toNat ≤ budget) : StopsWithin ((budget + 1) / 2 + 1) s := by
  induction budget using Nat.strong_induction_on generalizing s with
  | _ budget ih =>
    by_cases hf : s.fetches
    · by_cases h68 : s.peek s.pc = 0x68
      · exact ⟨1, by omega, .inr (run_one_of_refused (step_refused_of_fetches hf h68))⟩
      · obtain ⟨t, ht⟩ := step_next_of_fetches hf h68
        have hrs := rs_of_fetches hf ht
        by_cases hop : s.peek s.pc = 0x00
        · rw [if_pos hop] at hrs
          exact (stopsWithin_one ht (by rw [hrs]; decide)).mono (by omega)
        · rw [if_neg hop] at hrs
          obtain ⟨hcyc, hlimit⟩ := cyc_limit_of_fetches hf hop ht
          have hleft : (s.cyc : Int) < s.limit := hf.2.2
          have hrest : StopsWithin ((budget - 2 + 1) / 2 + 1) t := ih (budget - 2) (by omega) hrs (by omega)
          exact (hrest.of_next ht).mono (by omega)
    · obtain ⟨t, ht, hstopped⟩ := step_stops hr hf
      exact (stopsWithin_one ht hstopped).mono (by omega)

/-! ### The run entry (R160) -/

/-- A run entry without a start address writes no register. -/
theorem State.enterRun_of_neg (s : State) (limit : Int) {start : Int} (h : start < 0) :
    s.enterRun limit start =
      { s with
        dbc := Config.dbcSeed s.env.runs, ef4 := s.env.inLine, cyc := 0, rs := .running, limit := limit
        env := { s.env with runs := s.env.runs + 1 } } := by
  simp [State.enterRun, State.runEntry, not_le.mpr h]

/-- With a start address it writes the program counter. -/
theorem State.enterRun_of_nonneg (s : State) (limit : Int) {start : Int} (h : 0 ≤ start) :
    s.enterRun limit start =
      { s.setPc (BitVec.ofNat 16 start.toNat) with
        dbc := Config.dbcSeed s.env.runs, ef4 := s.env.inLine, cyc := 0, rs := .running, limit := limit
        env := { s.env with runs := s.env.runs + 1 } } := by
  simp only [State.enterRun, State.runEntry, h, if_true]
  rfl

/-- Between runs a step serves the request at the head of the queue (log 9). -/
theorem step_serves {s : State} {op : HostOp} {later : List HostOp} (hr : s.rs ≠ .running)
    (hp : s.env.pending = op :: later) :
    step s = .next (State.hostOp { s with env := { s.env with pending := later } } op) := by
  rw [step_not_running hr, betweenRuns_cons hp]

end Sys2Proof.Machine
end

section
/-! PROOFS. The statements on the execution loop. -/

namespace Sys2Proof.Proofs

open Sys2Proof Sys2Proof.Machine

/-- Settles O5: the three bytes decode to the instruction that the step runs, and encode back by O2; the halt acts before
`pc` is advanced, every other instruction after it. -/
theorem stepRunsTheDecodedInstruction : Obligations.StepRunsTheDecodedInstruction := by
  unfold Obligations.StepRunsTheDecodedInstruction
  intro s i rest hf hdecode
  have hi : s.fetchInstr = i := decodeOp_of_decode hdecode
  refine ⟨(encodeOfDecode _ _ _ hdecode).2, ?_, ?_⟩
  · rintro rfl
    rw [step_halts hf ((fetchInstr_eq_idl s).mp hi), exec_idl]
    rfl
  · intro hne fetched
    have hop : s.peek s.pc ≠ 0x00 := fun hop => hne (hi ▸ (fetchInstr_eq_idl s).mpr hop)
    have hstep : step s = finish (s.peek s.pc) (exec i fetched) := by
      rw [step_fetches hf, runInstr, State.fetchOpcode, State.fetched, if_neg hop, hi]; rfl
    rw [hstep]
    cases exec i fetched with
    | next t => rw [finish, if_neg hop]; rfl
    | fault e => rfl
    | refused e => rfl

/-- Settles O6, by the three cases of a turn of the loop. -/
theorem stopTestsBeforeTheFetch : Obligations.StopTestsBeforeTheFetch := by
  unfold Obligations.StopTestsBeforeTheFetch
  intro s hr
  refine ⟨step_yields hr, step_exhausts hr, fun hd hl t ht => ?_⟩
  have hf : s.fetches := ⟨hr, hd, hl⟩
  refine ⟨lastFetch_of_fetches hf ht, ?_⟩
  rw [rs_of_fetches hf ht]
  split
  · exact .inr rfl
  · exact .inl rfl

/-- Settles O7, by the one equation of the halt. -/
theorem haltResult : Obligations.HaltResult := by
  unfold Obligations.HaltResult
  intro s
  refine ⟨rfl, s.halt, exec_idl s, rfl, rfl, rfl, ?_, s.halt_cyc, onlyTouches_halt s⟩
  rw [s.halt_pc, BitVec.toNat_add]
  cases s.params.haltPcAdvance <;> rfl

/-- Settles O8: the run state after a fetch is decided by the byte fetched. -/
theorem onlyTheHaltByteHalts : Obligations.OnlyTheHaltByteHalts := by
  unfold Obligations.OnlyTheHaltByteHalts
  intro s t hf h
  rw [rs_of_fetches hf h]
  split
  next hop => exact iff_of_true rfl hop
  next hop => exact iff_of_false nofun hop

/-- Settles O9: the run entry leaves `pc`, memory and `DISP` as they are, so the second step fetches the same halt byte. -/
theorem haltIsAbsorbing : Obligations.HaltIsAbsorbing := by
  unfold Obligations.HaltIsAbsorbing
  intro s limit start later hr hpc hop hdisp hadvance hcost hp hstart hlimit
  have hentry := step_serves (by rw [hr]; decide) hp
  rw [State.hostOp, State.enterRun_of_neg _ limit hstart] at hentry
  refine ⟨_, (run_succ_of_next hentry 1).trans (run_succ_of_next (step_halts ?fetches ?byte) 0), rfl, ?_, ?_, ?_⟩
  case fetches => exact ⟨rfl, hdisp, hlimit⟩
  case byte => exact hop
  · exact hpc
  · exact (State.halt_pc _).trans ((congrArg (s.pc + ·) (if_neg (by simp [hadvance]))).trans (BitVec.add_zero _))
  · exact (State.halt_cyc _).trans (by simp [hcost])

/-- Settles O10, with the whole budget that is left. -/
theorem everyRunStops : Obligations.EveryRunStops := by
  unfold Obligations.EveryRunStops
  intro s hr
  exact stopsWithin_of_running _ hr le_rfl

/-- Settles O50, by the two forms of a run entry. -/
theorem runEntry : Obligations.RunEntry := by
  unfold Obligations.RunEntry
  intro s limit start later hr hp
  rw [step_serves hr hp, State.hostOp]
  refine ⟨Config.dbcSeed s.env.runs, _, rfl, ?_⟩
  by_cases hstart : 0 ≤ start
  · rw [State.enterRun_of_nonneg _ limit hstart]
    refine ⟨fun hneg => absurd hstart (not_le.mpr hneg), fun _ => ⟨?_, fun m hm => ?_⟩, rfl⟩
    · have hpc : ((s.setPc (BitVec.ofNat 16 start.toNat)).pc.toNat : Int) = start % 65536 := by
        rw [State.setPc_eq, State.pc_setReg, if_pos rfl, BitVec.toNat_ofNat]
        omega
      exact hpc
    · exact State.reg_setReg_other s s.p m _ hm
  · rw [State.enterRun_of_neg _ limit (not_le.mp hstart)]
    exact ⟨fun _ => rfl, fun h => absurd h hstart, rfl⟩

end Sys2Proof.Proofs
end

section
/-! SUPPORT. The step of an instruction without operand bytes, and its effect where the register or the pointer that it names
is the program counter (`spec/70_reset_and_hazards.md` R185). -/

namespace Sys2Proof

open Sys2Proof.Machine (hiNibble loNibble)

/-! ### Opcode bytes -/

/-- An instruction without operand bytes is decoded from its opcode byte, whatever follows it (R54, R58). -/
theorem decodeOp_opcode {i : Instr} (hw : i.wellFormed = true) (hnone : operandBytes i = []) (a b : Byte) :
    decodeOp (opcode i) a b = i := by
  have hdecode := decode_append (length_operandBytes hw) [a, b]
  rw [decodeWith_encode hw, hnone] at hdecode
  exact decodeOp_of_decode hdecode

theorem eq_regOpcode {op : Byte} {row n : Nibble} (hrow : op.extractLsb' 4 4 = row) (hn : op.extractLsb' 0 4 = n) :
    op = regOpcode row n := by
  subst hrow hn
  exact (hiNibble_append_loNibble op).symm

/-- The five high bits of an opcode byte of format `IO` tell the direction, the three low bits the port (R55, R57). -/
theorem eq_ioOpcode {op : Byte} {input : Bool} (h : op.extractLsb' 3 5 = if input then 0b01101#5 else 0b01100#5) :
    op = ioOpcode input (op.extractLsb' 0 3) := by
  rw [ioOpcode, ← h]
  clear h
  revert op; decide

end Sys2Proof

namespace Sys2Proof.Machine

/-! ### The state in which the execute phase runs (R162) -/

/-- The state after the fetch phase of any byte but the halt's. -/
def State.afterFetch (s : State) : State := (s.noteFetch s.pc).passOpcode (s.peek s.pc)

section

variable (s : State)

@[simp] theorem State.afterFetch_pc : s.afterFetch.pc = s.pc + 1 := State.pc_passOpcode _ _
@[simp] theorem State.afterFetch_reg_p : s.afterFetch.reg s.p = s.pc + 1 := State.pc_passOpcode _ _
@[simp] theorem State.afterFetch_p : s.afterFetch.p = s.p := rfl
@[simp] theorem State.afterFetch_x : s.afterFetch.x = s.x := rfl
@[simp] theorem State.afterFetch_d : s.afterFetch.d = s.d := rfl
@[simp] theorem State.afterFetch_df : s.afterFetch.df = s.df := rfl
@[simp] theorem State.afterFetch_mwe : s.afterFetch.mwe = s.mwe := rfl
@[simp] theorem State.afterFetch_ports : s.afterFetch.ports = s.ports := rfl
@[simp] theorem State.afterFetch_params : s.afterFetch.params = s.params := rfl
@[simp] theorem State.afterFetch_peek (a : Word) : s.afterFetch.peek a = s.peek a := rfl

/-- An increment of the program counter after the fetch phase passes the byte after the opcode byte. -/
theorem State.afterFetch_incReg_pc {n : Nibble} (hn : n = s.p) : (s.afterFetch.incReg n).pc = s.pc + 2 := by
  subst hn
  rw [State.incReg_eq, State.pc_setReg, State.afterFetch_p, if_pos rfl, State.afterFetch_reg_p, BitVec.add_assoc]
  rfl

/-- A decrement of the program counter after the fetch phase goes back to the opcode byte. -/
theorem State.afterFetch_decReg_pc {n : Nibble} (hn : n = s.p) : (s.afterFetch.decReg n).pc = s.pc := by
  subst hn
  rw [State.decReg_eq, State.pc_setReg, State.afterFetch_p, if_pos rfl, State.afterFetch_reg_p, BitVec.add_sub_cancel]

end

/-- What a step answers that fetches an instruction without operand bytes: the execute phase, then the cost. -/
theorem eq_addCycles_of_step {s t u : State} {i : Instr} (hf : s.fetches) (h : step s = .next t)
    (hop : s.peek s.pc = opcode i) (hw : i.wellFormed = true) (hnone : operandBytes i = []) (hidl : i ≠ .idl)
    (hu : exec i s.afterFetch = .next u) : t = u.addCycles (cost (opcode i)) := by
  have hi : s.fetchInstr = i := by rw [State.fetchInstr, hop, decodeOp_opcode hw hnone]
  have hne : s.peek s.pc ≠ 0x00 := fun h0 => hidl (hi ▸ (fetchInstr_eq_idl s).mpr h0)
  have hstep := step_of_exec hf hne (hi ▸ hu)
  rw [hop] at hstep
  cases h.symm.trans hstep
  rfl

/-! ### The pointer is the program counter -/

/-- The carry in and the borrow in are the same bit: a subtraction with borrow adds `DF` where one without adds 1 (R103,
R107). -/
theorem subBorrowSum_eq_add (p q : Byte) (df : Bool) : subBorrowSum p q df = p.toNat + (0xFF - q.toNat) + df.toNat := by
  cases df <;> rfl

/-- The return adds 1 to the register that it increments, whichever of the two it is (R148). -/
theorem State.returnFrom_reg_returnInc (s : State) (ie : Bool) :
    (s.returnFrom ie).reg (s.returnInc (s.peek s.rx)) = s.reg (s.returnInc (s.peek s.rx)) + 1 := by
  rw [returnFrom_eq, State.setIE_reg, State.reg_setReg_same]

section

variable {s t : State} {i : Instr} (hf : s.fetches) (hx : s.x = s.p) (h : step s = .next t)

theorem State.afterFetch_rx (hx : s.x = s.p) : s.afterFetch.rx = s.pc + 1 := by
  rw [State.rx, State.afterFetch_x, hx, State.afterFetch_reg_p]

theorem State.afterFetch_peek_rx (hx : s.x = s.p) : s.afterFetch.peek s.afterFetch.rx = s.peek (s.pc + 1) := by
  rw [State.afterFetch_rx hx, State.afterFetch_peek]

include hf hx h

/-- OUT, with a port from 1 to 7, puts the byte after its opcode byte out and passes it. -/
theorem out_at_pc {p : Port} (hp : p ≠ 0) (hop : s.peek s.pc = opcode (.out p)) :
    t.pc = s.pc + 2 ∧ t.ports.outHist = s.ports.outHist ++ [{ port := p, byte := s.peek (s.pc + 1) }] := by
  obtain rfl := eq_addCycles_of_step hf h hop (bne_iff_ne.mpr hp) rfl nofun (exec_out p _)
  have hout : s.afterFetch.peek s.afterFetch.rx = s.peek (s.pc + 1) := State.afterFetch_peek_rx hx
  exact ⟨s.afterFetch_incReg_pc hx, congrArg (fun v => s.ports.outHist ++ [⟨p, v⟩]) hout⟩

/-- STXD stores one address above its opcode byte, and goes back to it. -/
theorem stxd_at_pc (hop : s.peek s.pc = opcode .stxd) :
    t.pc = s.pc ∧ t.peek s.pc = s.peek s.pc ∧
      (s.mwe = true → (s.pc + 1).toNat < s.params.cap.val → t.peek (s.pc + 1) = s.d) := by
  obtain rfl := eq_addCycles_of_step hf h hop rfl rfl nofun (exec_stxd _)
  have hrx : s.afterFetch.rx = s.pc + 1 := State.afterFetch_rx hx
  refine ⟨s.afterFetch_decReg_pc hx, ?_, fun hmwe hcap => ?_⟩
  · have hother : s.afterFetch.rx ≠ s.pc := by rw [hrx]; bv_omega
    exact (s.afterFetch.peek_memWrite _ _ _).trans (if_neg fun hw => hother hw.1)
  · rw [← hrx] at hcap ⊢
    exact State.peek_memWrite_stored (s := s.afterFetch) s.d hmwe hcap

/-- INP, with a port from 1 to 7, stores its byte where `pc` stands after it. -/
theorem inp_at_pc {p : Port} (hp : p ≠ 0) (hop : s.peek s.pc = opcode (.inp p)) (hmwe : s.mwe = true)
    (hcap : (s.pc + 1).toNat < s.params.cap.val) : t.pc = s.pc + 1 ∧ t.peek t.pc = s.portInByte p := by
  obtain rfl := eq_addCycles_of_step hf h hop (bne_iff_ne.mpr hp) rfl nofun (exec_inp p _)
  have hrx : s.afterFetch.rx = s.pc + 1 := State.afterFetch_rx hx
  have hpc : s.afterFetch.pc = s.afterFetch.rx := s.afterFetch_pc.trans hrx.symm
  rw [← hrx] at hcap
  refine ⟨s.afterFetch_pc, (congrArg _ hpc).trans ?_⟩
  exact State.peek_memWrite_stored (s := s.afterFetch.portInAsked p) _ hmwe hcap

/-- OR, AND and XOR take the byte after their opcode byte and leave `pc` on it. -/
theorem logicMem_at_pc {f : Byte → Byte → Byte} (hexec : exec i s.afterFetch = logicMem f s.afterFetch)
    (hop : s.peek s.pc = opcode i) (hw : i.wellFormed = true) (hnone : operandBytes i = []) (hidl : i ≠ .idl) :
    t.d = f (s.peek (s.pc + 1)) s.d ∧ t.df = s.df ∧ t.pc = s.pc + 1 := by
  obtain rfl := eq_addCycles_of_step hf h hop hw hnone hidl hexec
  simp [State.afterFetch_rx hx]

/-- ADD, ADC, SD, SDB, SM and SMB, each with its own sum `n`, in the same way. -/
theorem arithMem_at_pc {f : Byte → Byte → Bool → Nat} {n : Nat}
    (hexec : exec i s.afterFetch = arithMem f s.afterFetch) (hsum : f (s.peek (s.pc + 1)) s.d s.df = n)
    (hop : s.peek s.pc = opcode i) (hw : i.wellFormed = true) (hnone : operandBytes i = []) (hidl : i ≠ .idl) :
    t.d.toNat = n % 256 ∧ t.df = decide (n > 255) ∧ t.pc = s.pc + 1 := by
  obtain rfl := eq_addCycles_of_step hf h hop hw hnone hidl hexec
  subst hsum
  simp [State.afterFetch_rx hx, ofSum]

/-- RET and DIS take `X` and `P` from the byte after their opcode byte, and increment the old program counter past it or, with
`RET_INC_NEW_X`, the register of the new `X`. -/
theorem return_at_pc {ie : Bool} (hexec : exec i s.afterFetch = .next (s.afterFetch.returnFrom ie))
    (hop : s.peek s.pc = opcode i) (hw : i.wellFormed = true) (hnone : operandBytes i = []) (hidl : i ≠ .idl) :
    t.x.toNat = (s.peek (s.pc + 1)).toNat / 16 ∧ t.p.toNat = (s.peek (s.pc + 1)).toNat % 16 ∧ t.ie = ie ∧
      (s.params.retIncNewX = false → t.reg s.p = s.pc + 2) ∧
      (s.params.retIncNewX = true → t.reg t.x = (s.setReg s.p (s.pc + 1)).reg t.x + 1) := by
  obtain rfl := eq_addCycles_of_step hf h hop hw hnone hidl hexec
  have hread := State.afterFetch_peek_rx hx
  have hxnew : (s.afterFetch.returnFrom ie).x = hiNibble (s.peek (s.pc + 1)) := congrArg hiNibble hread
  have hpnew : (s.afterFetch.returnFrom ie).p = loNibble (s.peek (s.pc + 1)) := congrArg loNibble hread
  have hinc := s.afterFetch.returnFrom_reg_returnInc ie
  rw [hread] at hinc
  rw [State.addCycles_x, State.addCycles_p, hxnew, hpnew]
  refine ⟨hiNibble_toNat _, loNibble_toNat _, rfl, fun hold => ?_, fun hnew => ?_⟩
  · rw [State.returnInc, State.afterFetch_params, hold, State.afterFetch_x, hx] at hinc
    exact hinc.trans (s.afterFetch_reg_p ▸ BitVec.add_assoc s.pc 1 1)
  · rw [State.returnInc, State.afterFetch_params, hnew] at hinc
    exact hinc

end

end Sys2Proof.Machine
end

section
/-! PROOFS. The statements on reset and on the hazards. -/

namespace Sys2Proof.Proofs

open Sys2Proof Sys2Proof.Machine

/-- Settles O12: after reset memory and the records are empty, and `CYC` is 0. -/
theorem resetMeetsTheInvariant : Obligations.ResetMeetsTheInvariant where
  memory := Memory.wf_reset
  bounds := fun _ hc => absurd hc List.not_mem_nil
  budget := le_max_left _ _
  outputs := fun _ he => absurd he List.not_mem_nil
  warnings := fun _ hw => absurd hw List.not_mem_nil

/-- Settles O51: the reset writes constants, so a second one writes the same. -/
theorem resetOperation : Obligations.ResetOperation := by
  unfold Obligations.ResetOperation
  intro s later hr hp
  refine ⟨_, step_serves hr hp, fun m => ?_, rfl, fun hlater => ?_⟩
  · exact (State.reg_setReg s 0 m 0).trans (if_congr eq_comm rfl rfl)
  · subst hlater
    refine (step_serves (op := .reset) (later := []) ?idle rfl).trans ?again
    case idle => exact nofun
    case again => simp only [State.hostOp, State.hostReset, Vector.set_set]

/-- Settles O52: each of the two is one write of the registers or of memory, and an empty memory list reads 0 in bounds. -/
theorem clearOperations : Obligations.ClearOperations := by
  unfold Obligations.ClearOperations
  intro s later hr
  constructor <;> intro hp
  · exact ⟨_, step_serves hr hp, fun m => Vector.getElem_replicate m.isLt, rfl⟩
  · exact ⟨_, step_serves hr hp, fun a => rfl, rfl⟩

/-- Settles O54, by reading the fields off; a port's lists are those of the replicated vector. -/
theorem powerOnValues : Obligations.PowerOnValues := by
  unfold Obligations.PowerOnValues
  refine ⟨rfl, rfl, rfl, rfl, rfl, rfl, rfl, rfl, rfl, rfl, rfl, rfl, rfl, rfl, rfl, rfl, fun p => ?_⟩
  exact ⟨Vector.getElem_replicate p.isLt, Vector.getElem_replicate p.isLt⟩

/-- Settles O56, row by row: the fetch phase has left `R[P]` at `pc + 1`, and that is the register the instruction finds. -/
theorem registerIsTheProgramCounter : Obligations.RegisterIsTheProgramCounter := by
  unfold Obligations.RegisterIsTheProgramCounter
  intro s t hf hn h
  refine ⟨?inc, ?dec, ?glo, ?ghi, ?plo, ?phi, ?ldn, ?lda, ?str, ?sep, ?sex⟩
  all_goals intro hrow; have hop := eq_regOpcode hrow hn
  case inc =>
    obtain rfl := eq_addCycles_of_step (i := .inc s.p) hf h hop rfl rfl nofun rfl
    exact s.afterFetch_incReg_pc rfl
  case dec =>
    obtain rfl := eq_addCycles_of_step (i := .dec s.p) hf h hop rfl rfl nofun rfl
    exact s.afterFetch_decReg_pc rfl
  case glo =>
    obtain rfl := eq_addCycles_of_step (i := .glo s.p) hf h hop rfl rfl nofun rfl
    exact ⟨s.afterFetch_pc, s.afterFetch_reg_p ▸ loByte_toNat _⟩
  case ghi =>
    obtain rfl := eq_addCycles_of_step (i := .ghi s.p) hf h hop rfl rfl nofun rfl
    exact ⟨s.afterFetch_pc, s.afterFetch_reg_p ▸ hiByte_toNat _⟩
  case plo =>
    obtain rfl := eq_addCycles_of_step (i := .plo s.p) hf h hop rfl rfl nofun rfl
    simp [State.pc_setReg, joinBytes_toNat, hiByte_toNat]
  case phi =>
    obtain rfl := eq_addCycles_of_step (i := .phi s.p) hf h hop rfl rfl nofun rfl
    simp [State.pc_setReg, joinBytes_toNat, loByte_toNat]
  case ldn =>
    intro hp
    obtain rfl := eq_addCycles_of_step (i := .ldn s.p) hf h hop (bne_iff_ne.mpr hp) rfl nofun rfl
    exact ⟨congrArg s.peek s.afterFetch_reg_p, s.afterFetch_pc⟩
  case lda =>
    obtain rfl := eq_addCycles_of_step (i := .lda s.p) hf h hop rfl rfl nofun rfl
    exact ⟨congrArg s.peek s.afterFetch_reg_p, s.afterFetch_incReg_pc rfl⟩
  case str =>
    intro hmwe hcap
    obtain rfl := eq_addCycles_of_step (i := .str s.p) hf h hop rfl rfl nofun rfl
    rw [← s.afterFetch_pc] at hcap
    exact ⟨s.afterFetch_pc, State.peek_memWrite_stored (s := s.afterFetch) s.d hmwe hcap⟩
  case sep =>
    obtain rfl := eq_addCycles_of_step (i := .sep s.p) hf h hop rfl rfl nofun rfl
    exact ⟨rfl, s.afterFetch_reg_p⟩
  case sex =>
    obtain rfl := eq_addCycles_of_step (i := .sex s.p) hf h hop rfl rfl nofun rfl
    exact ⟨rfl, rfl, s.afterFetch_pc⟩

/-- Settles O57, row by row: the pointer finds the byte at `pc + 1`, where the fetch phase has left `R[P]`. -/
theorem pointerIsTheProgramCounter : Obligations.PointerIsTheProgramCounter := by
  unfold Obligations.PointerIsTheProgramCounter
  intro s t hf hx h m
  have hread : s.afterFetch.peek s.afterFetch.rx = s.peek (s.pc + 1) := State.afterFetch_peek_rx hx
  refine ⟨?ldx, ?ldxa, ?out, ?irx, ?stxd, ?inp, ?logic, ?arithmetic, ?returns⟩
  case ldx =>
    intro hop
    obtain rfl := eq_addCycles_of_step (i := .ldx) hf h hop rfl rfl nofun rfl
    exact ⟨hread, s.afterFetch_pc⟩
  case ldxa =>
    intro hop
    obtain rfl := eq_addCycles_of_step (i := .ldxa) hf h hop rfl rfl nofun rfl
    exact ⟨hread, s.afterFetch_incReg_pc hx⟩
  case out =>
    intro hdir hirx
    have hop : s.peek s.pc = opcode (.out ((s.peek s.pc).extractLsb' 0 3)) := eq_ioOpcode (input := false) hdir
    have hport : (s.peek s.pc).extractLsb' 0 3 ≠ 0 := fun h0 => hirx (by rw [hop, h0]; rfl)
    exact out_at_pc hf hx h hport hop
  case irx =>
    intro hop
    obtain rfl := eq_addCycles_of_step (i := .irx) hf h hop rfl rfl nofun rfl
    exact s.afterFetch_incReg_pc hx
  case stxd =>
    intro hop
    obtain ⟨hpc, hkept, hstored⟩ := stxd_at_pc hf hx h hop
    exact ⟨hpc, hkept.trans hop, hstored⟩
  case inp =>
    intro hdir hmwe hcap
    have hop : s.peek s.pc = opcode (.inp ((s.peek s.pc).extractLsb' 0 3)) := eq_ioOpcode (input := true) hdir
    have hport : (s.peek s.pc).extractLsb' 0 3 ≠ 0 := fun h0 => by
      have h68 : s.peek s.pc = 0x68 := by rw [hop, h0]; rfl
      exact absurd (h.symm.trans (step_refused_of_fetches hf h68)) nofun
    exact inp_at_pc hf hx h hport hop hmwe hcap
  case logic =>
    simp only [List.forall_mem_cons, -eq_self]
    refine ⟨fun hop => ?or, fun hop => ?and, fun hop => ?xor, List.forall_mem_nil _⟩
    case or => exact logicMem_at_pc (i := .or) hf hx h rfl hop rfl rfl nofun
    case and => exact logicMem_at_pc (i := .and) hf hx h rfl hop rfl rfl nofun
    case xor => exact logicMem_at_pc (i := .xor) hf hx h rfl hop rfl rfl nofun
  case arithmetic =>
    simp only [List.forall_mem_cons, -eq_self]
    refine ⟨fun hop => ?add, fun hop => ?adc, fun hop => ?sd, fun hop => ?sdb, fun hop => ?sm, fun hop => ?smb,
      List.forall_mem_nil _⟩
    case add => exact arithMem_at_pc (i := .add) (f := fun m d _ => addSum m d) hf hx h rfl rfl hop rfl rfl nofun
    case adc => exact arithMem_at_pc (i := .adc) (f := addCarrySum) hf hx h rfl rfl hop rfl rfl nofun
    case sd => exact arithMem_at_pc (i := .sd) (f := fun m d _ => subSum m d) hf hx h rfl rfl hop rfl rfl nofun
    case sdb =>
      exact arithMem_at_pc (i := .sdb) (f := fun m d df => subBorrowSum m d df) hf hx h rfl
        (subBorrowSum_eq_add _ _ _) hop rfl rfl nofun
    case sm => exact arithMem_at_pc (i := .sm) (f := fun m d _ => subSum d m) hf hx h rfl rfl hop rfl rfl nofun
    case smb =>
      exact arithMem_at_pc (i := .smb) (f := fun m d df => subBorrowSum d m df) hf hx h rfl
        (subBorrowSum_eq_add _ _ _) hop rfl rfl nofun
  case returns =>
    simp only [List.forall_mem_cons, -eq_self]
    refine ⟨fun hop => ?ret, fun hop => ?dis, List.forall_mem_nil _⟩
    case ret => exact return_at_pc (i := .ret) hf hx h rfl hop rfl rfl nofun
    case dis => exact return_at_pc (i := .dis) hf hx h rfl hop rfl rfl nofun

end Sys2Proof.Proofs
end
